-- ==== Sys2Proof/Word.lean ====
section
/-! DEFINITION. The words of FilterEngine and its two enumerations. -/

namespace Sys2Proof

/-- The command word `CMD[18:0]` (30_encoding.md R38; `CMD_W` of R6). -/
abbrev CmdWord := BitVec 19

/-- The response word `RSP[16:0]` (30_encoding.md R39; `RSP_W` of R6). -/
abbrev RspWord := BitVec 17

/-- A 16-bit two's complement value: a sample, a window slot, `helper`, a result
(00_scope.md R6: `SAMPLE_W`, `SLOT_W`, `HELPER_W`, `OUT_W`). -/
abbrev Sample := BitVec 16

/-- The strategy register `mode` and the operand of `SET_FILTER` (10_state.md R17,
30_encoding.md R41): D0's seven identifiers and the reset value `UNSET`. -/
inductive FilterMode where
  | unset | cheb | bess | medf | medr | meds | trkf | trks
  deriving DecidableEq, Repr

/-- The register `order` (10_state.md R18): its three legal values. "The value 3 is never stored",
so it has no constructor (DEDUCED, log entry 5). -/
inductive FilterOrder where
  | unset | one | two
  deriving DecidableEq, Repr

end Sys2Proof
end

