-- ==== Sys2Proof/Syntax.lean ====
section
/-! DEFINITION. The instructions: one constructor per row of spec/opcode_table.json. -/

namespace Sys2Proof

/-- The five commands of FE-CMD (30_encoding.md R40) and the nine run operations that `RUN` selects
by the state (R40, 46_run_dispatch.md R88). A run operation has the words of `RUN`: the decoder never
answers one, the meaning of `run` calls it (DEDUCED, log entry 4). -/
inductive Instr where
  /-- `NEW` (R53) -/
  | new
  /-- `CONFIGURE` (R54) -/
  | configure
  /-- `SET_FILTER` (R55): the mode code `arg[2:0]`, 0 included -/
  | setFilter (m : FilterMode)
  /-- `SET_ORDER` (R56): the 16-bit argument, read as signed -/
  | setOrder (n : Sample)
  /-- `RUN` (R88): the 16-bit sample, read as signed -/
  | run (x : Sample)
  /-- `RUN.CHEB1` (R68) -/
  | runCheb1 (x : Sample)
  /-- `RUN.CHEB2` (R69) -/
  | runCheb2 (x : Sample)
  /-- `RUN.BESS1` (R73) -/
  | runBess1 (x : Sample)
  /-- `RUN.BESS2` (R74) -/
  | runBess2 (x : Sample)
  /-- `RUN.MEDF` (R76) -/
  | runMedf (x : Sample)
  /-- `RUN.MEDR` (R77) -/
  | runMedr (x : Sample)
  /-- `RUN.MEDS` (R78) -/
  | runMeds (x : Sample)
  /-- `RUN.TRKF` (R81) -/
  | runTrkf (x : Sample)
  /-- `RUN.TRKS` (R83) -/
  | runTrks (x : Sample)
  deriving DecidableEq, Repr

end Sys2Proof
end

