-- ==== Sys2Proof/WellFormed.lean ====
section
/-! DEFINITION. Which instructions a command word can stand for. -/

namespace Sys2Proof

/-- A well-formed instruction is one a host can send: one of the five commands of 30_encoding.md R40.
The one check: a run operation is no command of its own ("`RUN` has no sub-opcode"). Operands need
none, because every mode code and every 16-bit argument is well-formed text (R48) and a value outside
a command's domain is refused at execution, not at decoding (R50). -/
def Instr.wellFormed : Instr → Bool
  | .new => true
  | .configure => true
  | .setFilter _ => true
  | .setOrder _ => true
  | .run _ => true
  | .runCheb1 _ => false
  | .runCheb2 _ => false
  | .runBess1 _ => false
  | .runBess2 _ => false
  | .runMedf _ => false
  | .runMedr _ => false
  | .runMeds _ => false
  | .runTrkf _ => false
  | .runTrks _ => false

end Sys2Proof
end

