-- ==== Sys2Proof/Decode.lean ====
section
/-! DEFINITION. The decoder of 30_encoding.md R50, total on all 2^19 command words, the encoder
written from the same tables, and the opcode table's match and mask of every row. -/

namespace Sys2Proof

/-- The mode code of a strategy (30_encoding.md R41). -/
def FilterMode.code : FilterMode → BitVec 3
  | .unset => 0#3
  | .cheb => 1#3
  | .bess => 2#3
  | .medf => 3#3
  | .medr => 4#3
  | .meds => 5#3
  | .trkf => 6#3
  | .trks => 7#3

/-- The strategy of a mode code (30_encoding.md R41): every 3-bit code has one. -/
def FilterMode.ofCode (c : BitVec 3) : FilterMode :=
  match c.toNat with
  | 0 => .unset
  | 1 => .cheb
  | 2 => .bess
  | 3 => .medf
  | 4 => .medr
  | 5 => .meds
  | 6 => .trkf
  | _ => .trks

/-- The 2-bit contents of the register `order` (10_state.md R18). -/
def FilterOrder.code : FilterOrder → BitVec 2
  | .unset => 0#2
  | .one => 1#2
  | .two => 2#2

/-- `CMD[18:16]` (30_encoding.md R38). -/
def cmdOp (w : CmdWord) : BitVec 3 := w.extractLsb' 16 3

/-- `CMD[15:0]` (30_encoding.md R38). -/
def cmdArg (w : CmdWord) : Sample := w.extractLsb' 0 16

/-- The reserved bits `arg[15:3]` of `SET_FILTER` (30_encoding.md R45). -/
def argReserved (arg : Sample) : BitVec 13 := arg.extractLsb' 3 13

/-- The mode code `arg[2:0]` of `SET_FILTER` (30_encoding.md R41). -/
def argCode (arg : Sample) : BitVec 3 := arg.extractLsb' 0 3

/-- Why a word is `ILLEGAL` (30_encoding.md R50). Both names raise `ILLEGAL_COMMAND`
(60_exceptions.md R95). -/
inductive DecodeError where
  /-- `op` is 5, 6 or 7 (R44) -/
  | reservedOpcode
  /-- reserved argument bits that are not all zero (R45) -/
  | reservedArgument
  deriving DecidableEq, Repr

/-- The decoder (30_encoding.md R50), its lines in the order of the rule. It reads the word alone,
never the state (R47). -/
def decode (w : CmdWord) : Except DecodeError Instr :=
  if 5 ≤ (cmdOp w).toNat then .error .reservedOpcode
  else if cmdOp w = 0#3 ∧ cmdArg w ≠ 0#16 then .error .reservedArgument
  else if cmdOp w = 1#3 ∧ cmdArg w ≠ 0#16 then .error .reservedArgument
  else if cmdOp w = 2#3 ∧ argReserved (cmdArg w) ≠ 0#13 then .error .reservedArgument
  else if cmdOp w = 0#3 then .ok .new
  else if cmdOp w = 1#3 then .ok .configure
  else if cmdOp w = 2#3 then .ok (.setFilter (FilterMode.ofCode (argCode (cmdArg w))))
  else if cmdOp w = 3#3 then .ok (.setOrder (cmdArg w))
  else .ok (.run (cmdArg w))

/-- The opcode of an instruction (30_encoding.md R40); a run operation has the opcode of `RUN`. -/
def Instr.opcode : Instr → BitVec 3
  | .new => 0#3
  | .configure => 1#3
  | .setFilter _ => 2#3
  | .setOrder _ => 3#3
  | .run _ => 4#3
  | .runCheb1 _ => 4#3
  | .runCheb2 _ => 4#3
  | .runBess1 _ => 4#3
  | .runBess2 _ => 4#3
  | .runMedf _ => 4#3
  | .runMedr _ => 4#3
  | .runMeds _ => 4#3
  | .runTrkf _ => 4#3
  | .runTrks _ => 4#3

/-- The 16-bit argument of an instruction (30_encoding.md R40 to R43, R45). -/
def Instr.argument : Instr → Sample
  | .new => 0#16
  | .configure => 0#16
  | .setFilter m => m.code.setWidth 16
  | .setOrder n => n
  | .run x => x
  | .runCheb1 x => x
  | .runCheb2 x => x
  | .runBess1 x => x
  | .runBess2 x => x
  | .runMedf x => x
  | .runMedr x => x
  | .runMeds x => x
  | .runTrkf x => x
  | .runTrks x => x

/-- The command word with the given opcode and argument (30_encoding.md R38). -/
def commandWord (op : BitVec 3) (arg : Sample) : CmdWord := op ++ arg

/-- The encoder (30_encoding.md R38, R40, R48). -/
def encode (i : Instr) : CmdWord := commandWord i.opcode i.argument

/-- The command that carries an instruction: itself for the five commands, and the `RUN` of the same
sample for a run operation (30_encoding.md R40: the table's rows share `RUN`'s match and mask). -/
def Instr.carrier : Instr → Instr
  | .new => .new
  | .configure => .configure
  | .setFilter m => .setFilter m
  | .setOrder n => .setOrder n
  | .run x => .run x
  | .runCheb1 x => .run x
  | .runCheb2 x => .run x
  | .runBess1 x => .run x
  | .runBess2 x => .run x
  | .runMedf x => .run x
  | .runMedr x => .run x
  | .runMeds x => .run x
  | .runTrkf x => .run x
  | .runTrks x => .run x

/-- The column `match` of the opcode table (30_encoding.md R50). -/
def Instr.tableMatch : Instr → CmdWord
  | .new => 0x00000#19
  | .configure => 0x10000#19
  | .setFilter _ => 0x20000#19
  | .setOrder _ => 0x30000#19
  | .run _ => 0x40000#19
  | .runCheb1 _ => 0x40000#19
  | .runCheb2 _ => 0x40000#19
  | .runBess1 _ => 0x40000#19
  | .runBess2 _ => 0x40000#19
  | .runMedf _ => 0x40000#19
  | .runMedr _ => 0x40000#19
  | .runMeds _ => 0x40000#19
  | .runTrkf _ => 0x40000#19
  | .runTrks _ => 0x40000#19

/-- The column `mask` of the opcode table (30_encoding.md R50). -/
def Instr.tableMask : Instr → CmdWord
  | .new => 0x7FFFF#19
  | .configure => 0x7FFFF#19
  | .setFilter _ => 0x7FFF8#19
  | .setOrder _ => 0x70000#19
  | .run _ => 0x70000#19
  | .runCheb1 _ => 0x70000#19
  | .runCheb2 _ => 0x70000#19
  | .runBess1 _ => 0x70000#19
  | .runBess2 _ => 0x70000#19
  | .runMedf _ => 0x70000#19
  | .runMedr _ => 0x70000#19
  | .runMeds _ => 0x70000#19
  | .runTrkf _ => 0x70000#19
  | .runTrks _ => 0x70000#19

/-- The command word in the low bits of a number that gives `nbits` bits of it: the bits above
`nbits` are zero, and padding bits above bit 18 "are not part of the word and the block does not see
them" (30_encoding.md R38; DEDUCED, log entry 16). -/
def tableWord (nbits w : Nat) : CmdWord := BitVec.ofNat 19 (w % 2 ^ nbits)

/-- What the decoder reads from a word of the opcode table. -/
def decodeTableWord (nbits w : Nat) : Option Instr :=
  match decode (tableWord nbits w) with
  | .ok i => some i
  | .error _ => none

end Sys2Proof
end

