-- ==== Sys2Proof/Machine/Operands.lean ====
section
/-! DEFINITION. The operand forms and the arithmetic primitives of 00_scope.md R8. All intermediates
are exact integers; only `wrap16` narrows (00_scope.md R7). -/

namespace Sys2Proof.Machine

/-- `sext_16` (00_scope.md R8): the one operand extension of the block (30_encoding.md R42, R43). -/
abbrev sext16 (v : Sample) : Int := v.toInt

/-- `wrap16` (00_scope.md R8): the low 16 bits of an integer, as the 16-bit value that is stored or
answered. -/
def wrap16 (i : Int) : Sample := BitVec.ofInt 16 i

/-- `asr` (00_scope.md R8): floor division by `2^n`, toward minus infinity for negative `i`
(PRESUMED, 93_implementation_defined.md G5, log entry 10). -/
def asr (i : Int) (n : Nat) : Int := i / ((2 ^ n : Nat) : Int)

/-- `round_shift` (00_scope.md R8). -/
def roundShift (i add : Int) (shift : Nat) : Int := asr (i + add) shift

/-- `median3` (00_scope.md R8): the middle value of three. -/
def median3 (a b c : Int) : Int := max (min a b) (min (max a b) c)

end Sys2Proof.Machine
end

