-- ==== Sys2Proof/Machine/Flags.lean ====
section
/-! DEFINITION. The status of a command. The block has no flags register (10_state.md R20): the only
status is the `err` bit of the command's own response and, with it, the cause code. -/

namespace Sys2Proof.Machine

/-- The causes of `ConfigurationError` (60_exceptions.md R95). -/
inductive Cause where
  | illegalCommand | badMode | badOrder | modeUnset | orderUnset
  deriving DecidableEq, Repr

/-- The cause code (60_exceptions.md R95). -/
def Cause.code : Cause → Sample
  | .illegalCommand => 1#16
  | .badMode => 2#16
  | .badOrder => 3#16
  | .modeUnset => 4#16
  | .orderUnset => 5#16

/-- The response word of `err` and `data` (30_encoding.md R39). -/
def responseWord (err : BitVec 1) (data : Sample) : RspWord := err ++ data

/-- The success response carrying the value `v` (30_encoding.md R39, `respond`). -/
def successWord (v : Sample) : RspWord := responseWord 0#1 v

/-- The error response carrying a cause (30_encoding.md R39, 60_exceptions.md R96). -/
def errorWord (c : Cause) : RspWord := responseWord 1#1 c.code

/-- `RSP[16]`, set for an error (30_encoding.md R39). -/
def rspErr (r : RspWord) : Bool := r.getLsbD 16

/-- `RSP[15:0]` (30_encoding.md R39). -/
def rspData (r : RspWord) : Sample := r.extractLsb' 0 16

end Sys2Proof.Machine
end

