-- ==== Sys2Proof/Machine/State.lean ====
section
/-! DEFINITION. The state of the machine, its reset value, and the reasons a step can stop. -/

namespace Sys2Proof.Machine

/-- What the host presents to the block next (30_encoding.md R51, R52; 70_reset_and_hazards.md R107,
R111). Staying idle is presenting nothing. -/
inductive HostInput where
  /-- a command word on the command port -/
  | command (cmd : CmdWord)
  /-- the reset pin, asserted -/
  | reset
  deriving DecidableEq, Repr

/-- The state: the seven registers of 10_state.md R13, the response port, and what the host will
present. The widths are those of R13's table and of R14 to R18, 73 bits together; R13's sentence and
20_memory.md R28 count 56, and no file settles it (DESIGN CHOICE, log entry 19). The block has no program counter (R19), no flags (R20) and no memory (20_memory.md R28). -/
structure State where
  /-- `w[0]`, the oldest window slot (R14) -/
  w0          : Sample
  /-- `w[1]`, the middle window slot (R14) -/
  w1          : Sample
  /-- `w[2]`, the newest window slot (R14) -/
  w2          : Sample
  /-- the estimate of the adaptive trackers (R15) -/
  helper      : Sample
  /-- the step scale of the "smoother" tracker, 0 to 10 between commands (R16, R25) -/
  stepCounter : BitVec 4
  /-- the active strategy (R17) -/
  mode        : FilterMode
  /-- the filter order (R18) -/
  order       : FilterOrder
  /-- the response word presented by the last step, if it presented one (30_encoding.md R39;
  DESIGN CHOICE, log entry 2) -/
  rsp         : Option RspWord
  /-- what the host will present, oldest first (20_memory.md R34; DESIGN CHOICE, log entry 1) -/
  pending     : List HostInput
  deriving DecidableEq, Repr

/-- Reasons the machine stops with a fault: none. Every command in every state is answered
(20_memory.md R34, 46_run_dispatch.md R92); a `ConfigurationError` is a response, not a stop
(60_exceptions.md R96). The type is empty, so no step can raise a fault; that is safe. -/
inductive Fault where
  deriving DecidableEq, Repr

/-- Reasons an instruction has no meaning in the model. -/
inductive Refusal where
  /-- Raised by an arm of exec whose instruction has no meaning yet; no arm does so. Safe: a run
  stops, and nothing is claimed of what follows. -/
  | notModelled (mnemonic : String)
  deriving DecidableEq, Repr

/-- The machine right after reset (10_state.md R22, 70_reset_and_hazards.md R107, R108): every
register zero, `mode` and `order` `UNSET`, no response presented. The host has presented nothing. -/
def State.reset : State where
  w0 := 0#16
  w1 := 0#16
  w2 := 0#16
  helper := 0#16
  stepCounter := 0#4
  mode := .unset
  order := .unset
  rsp := none
  pending := []

end Sys2Proof.Machine
end

