-- ==== Sys2Proof/Machine/Ops.lean ====
section
/-! DEFINITION. The named operations over the state: the window shifter, answering a command, taking
the one exception, reset, idling, and the host's command stream. -/

namespace Sys2Proof.Machine

/-- What a meaning answers. -/
abbrev Result := Host.Outcome State Fault Refusal

/-- `SHIFT3(v)` (41_window_shifter.md R60): all three slots written at once, from the old values. -/
def State.shift3 (s : State) (v : Sample) : State :=
  { s with w0 := s.w1, w1 := s.w2, w2 := v }

/-- The response port presents `r` (30_encoding.md R39, R51). -/
def State.present (s : State) (r : RspWord) : State := { s with rsp := some r }

/-- `respond(v)` (00_scope.md R9): the command ends with the success response carrying `v`. -/
def respond (v : Sample) (s : State) : Result := .next (s.present (successWord v))

/-- `raise ConfigurationError(c)`, taking the exception (60_exceptions.md R96): no register is
written, the response is `err = 1` with the cause, and the block goes on to the next command. Nothing
is saved and nothing is sticky, so there is no return from it and nothing to restore (R99). -/
def raiseError (c : Cause) (s : State) : Result := .next (s.present (errorWord c))

/-- Every register of 10_state.md R13 at zero, the ports as they are (40_configuration.md R53,
70_reset_and_hazards.md R107: the same effect on state). -/
def State.clear (s : State) : State :=
  { State.reset with rsp := s.rsp, pending := s.pending }

/-- The reset pin (70_reset_and_hazards.md R107): every register zero, no response presented
(`rsp_valid = 0`); what the host has not presented yet stays. A command in flight is abandoned
without a response: at this level a command is atomic, and one that reset abandons has left no trace
(DEDUCED, log entry 3; the clocked port of Machine/Port.lean has the command in flight). -/
def State.pinReset (s : State) : State := { State.reset with pending := s.pending }

/-- No command presented (30_encoding.md R52): no register changes and no response is presented. -/
def State.idle (s : State) : State := { s with rsp := none }

/-- The host has presented its next input, and `rest` is what remains. -/
def State.take (s : State) (rest : List HostInput) : State := { s with pending := rest }

/-- The host presents the command word `w` next. -/
def State.offer (s : State) (w : CmdWord) : State :=
  { s with pending := .command w :: s.pending }

end Sys2Proof.Machine
end

