-- ==== Sys2Proof/Machine/Configuration.lean ====
section
/-! DEFINITION. The configuration commands (40_configuration.md). -/

namespace Sys2Proof.Machine

/-- `NEW` (R53). -/
def execNew (s : State) : Result := respond 0#16 s.clear

/-- `CONFIGURE` (R54): the documented default, Chebyshev of order 1. -/
def execConfigure (s : State) : Result :=
  respond 0#16 { s with mode := .cheb, order := .one }

/-- `SET_FILTER` (R55): code 0 is refused, and no check is made against `order`. -/
def execSetFilter (m : FilterMode) (s : State) : Result :=
  if m = .unset then raiseError .badMode s
  else respond 0#16 { s with mode := m }

/-- `SET_ORDER` (R56): 1 and 2 are the only accepted arguments, and no check is made against `mode`. -/
def execSetOrder (n : Sample) (s : State) : Result :=
  if sext16 n = 1 then respond 0#16 { s with order := .one }
  else if sext16 n = 2 then respond 0#16 { s with order := .two }
  else raiseError .badOrder s

end Sys2Proof.Machine
end

