-- ==== Sys2Proof/Config.lean ====
section
/-! DEFINITION. The shape of the hardwired constants (their values stand in Machine/Constants.lean)
and the free values of the clocked command port. -/

namespace Sys2Proof

/-- A row of constants of the first-order pattern `IIR1` (42_chebyshev.md R64, R67): the multiplier
and the per-term right shift of each operand, the rounding add and the final shift. -/
structure Iir1Row where
  kX    : Int
  pX    : Nat
  kPrev : Int
  pPrev : Nat
  add   : Int
  sh    : Nat
  deriving DecidableEq, Repr

/-- A row of constants of the second-order pattern `IIR2` (42_chebyshev.md R64, R67). The field
names carry the pairing of multipliers and operands (93_implementation_defined.md G2, log entry 7). -/
structure Iir2Row where
  kX     : Int
  pX     : Nat
  kOlder : Int
  pOlder : Nat
  kNewer : Int
  pNewer : Nat
  add    : Int
  sh     : Nat
  deriving DecidableEq, Repr

/-- Free value (30_encoding.md R52, 92_eei_decisions.md D25): `LAT - 1` for the n-th accepted
command. `LAT` is any number of at least 1, "the same or different per command". Log entry 14. -/
opaque Config.extraLatency : Nat → Nat

/-- Free value (30_encoding.md R52): whether `cmd_ready` is already 1 in the cycle that presents the
response of the n-th accepted command, or only in the cycle after it. Log entry 14. -/
opaque Config.readyWithResponse : Nat → Bool

end Sys2Proof
end

