-- ==== Sys2Proof/Machine/Constants.lean ====
section
/-! DEFINITION. The hardwired constants (00_scope.md R5, R6): no command changes them. They stand
here, not in Config.lean, so that an audit of the source can correct them in one place. -/

namespace Sys2Proof.Machine

/-- `RUN.CHEB1` (42_chebyshev.md R67), every constant from D0. -/
def cheb1Row : Iir1Row where
  kX := 3269048
  pX := 2
  kPrev := 3701023
  pPrev := 3
  add := 1048576
  sh := 21

/-- `RUN.CHEB2` (42_chebyshev.md R67). The per-term shifts and the pairing of multipliers with
operands are PRESUMED (93_implementation_defined.md G1, G2; log entries 6 and 7). -/
def cheb2Row : Iir2Row where
  kX := 662828
  pX := 4
  kOlder := -540791
  pOlder := 1
  kNewer := 628977
  pNewer := 0
  add := 262144
  sh := 19

/-- `RUN.BESS1` (43_bessel.md R72). The per-term shifts are PRESUMED (G1, log entry 6). -/
def bess1Row : Iir1Row where
  kX := 2057199
  pX := 3
  kPrev := 1068552
  pPrev := 1
  add := 524288
  sh := 20

/-- `RUN.BESS2` (43_bessel.md R72). The per-term shifts and the pairing are PRESUMED (G1, G2; log
entries 6 and 7). -/
def bess2Row : Iir2Row where
  kX := 759505
  pX := 4
  kOlder := -1011418
  pOlder := 3
  kNewer := 921678
  pNewer := 1
  add := 262144
  sh := 19

/-- `TRK_THRESH` (00_scope.md R6): the "fast" tracker's cascade, in the order it is applied. -/
def trkThresholds : List Int := [512, 128, 32, 8]

/-- `TRK_DEADBAND` (00_scope.md R6): the "smoother" tracker's deadband and step unit. -/
abbrev trkDeadband : Int := 8

/-- `CTR_MAX` (00_scope.md R6): the largest `step_counter` that survives a run. -/
abbrev ctrMax : Nat := 10

end Sys2Proof.Machine
end

