-- ==== Sys2Proof/Machine/Iir.lean ====
section
/-! DEFINITION. The two fixed-point evaluation patterns that the four IIR operations share
(42_chebyshev.md R64 to R66). -/

namespace Sys2Proof.Machine

/-- The accumulator of `IIR1` (R64): two products, each shifted on its own
(90_conflicts.md C1), then added exactly (R65). -/
def iir1Acc (r : Iir1Row) (x prev : Int) : Int :=
  asr (x * r.kX) r.pX + asr (prev * r.kPrev) r.pPrev

/-- The recurrence value `tmp` of `IIR1` (R64), before truncation. -/
def iir1Tmp (r : Iir1Row) (x prev : Int) : Int :=
  roundShift (iir1Acc r x prev) r.add r.sh

/-- `IIR1` (R64): store the truncated recurrence value (R66), answer the sum of the two newest slots
after the shift. -/
def iir1 (r : Iir1Row) (x : Sample) (s : State) : Result :=
  let t := s.shift3 (wrap16 (iir1Tmp r (sext16 x) (sext16 s.w2)))
  respond (wrap16 (sext16 t.w1 + sext16 t.w2)) t

/-- The accumulator of `IIR2` (R64). -/
def iir2Acc (r : Iir2Row) (x older newer : Int) : Int :=
  asr (x * r.kX) r.pX + asr (older * r.kOlder) r.pOlder + asr (newer * r.kNewer) r.pNewer

/-- The recurrence value `tmp` of `IIR2` (R64), before truncation. -/
def iir2Tmp (r : Iir2Row) (x older newer : Int) : Int :=
  roundShift (iir2Acc r x older newer) r.add r.sh

/-- `IIR2` (R64): store the truncated recurrence value (R66), answer oldest + newest + twice the
middle slot after the shift. -/
def iir2 (r : Iir2Row) (x : Sample) (s : State) : Result :=
  let t := s.shift3 (wrap16 (iir2Tmp r (sext16 x) (sext16 s.w1) (sext16 s.w2)))
  respond (wrap16 (sext16 t.w0 + sext16 t.w2 + 2 * sext16 t.w1)) t

end Sys2Proof.Machine
end

