-- ==== Sys2Proof/Machine/Bessel.lean ====
section
/-! DEFINITION. The Bessel low-pass operations (43_bessel.md): the patterns of R64 with the rows of
R72 (R71). -/

namespace Sys2Proof.Machine

/-- `RUN.BESS1` (R73). -/
def execRunBess1 (x : Sample) (s : State) : Result := iir1 bess1Row x s

/-- `RUN.BESS2` (R74). -/
def execRunBess2 (x : Sample) (s : State) : Result := iir2 bess2Row x s

end Sys2Proof.Machine
end

