-- ==== Sys2Proof/Machine/Chebyshev.lean ====
section
/-! DEFINITION. The Chebyshev low-pass operations (42_chebyshev.md). -/

namespace Sys2Proof.Machine

/-- `RUN.CHEB1` (R68). -/
def execRunCheb1 (x : Sample) (s : State) : Result := iir1 cheb1Row x s

/-- `RUN.CHEB2` (R69). -/
def execRunCheb2 (x : Sample) (s : State) : Result := iir2 cheb2Row x s

end Sys2Proof.Machine
end

