-- ==== Sys2Proof/Machine/Median.lean ====
section
/-! DEFINITION. The order-3 median filter (44_median.md): three mode codes, one function (R79). -/

namespace Sys2Proof.Machine

/-- The median of the three window slots, compared as signed values (R118). -/
def State.windowMedian (s : State) : Int :=
  median3 (sext16 s.w0) (sext16 s.w1) (sext16 s.w2)

/-- `MEDIAN_RUN(x)` (R118): the sample enters the window before the median is taken. -/
def medianRun (x : Sample) (s : State) : Result :=
  let t := s.shift3 x
  respond (wrap16 t.windowMedian) t

/-- `RUN.MEDF` (R76). -/
def execRunMedf (x : Sample) (s : State) : Result := medianRun x s

/-- `RUN.MEDR` (R77). -/
def execRunMedr (x : Sample) (s : State) : Result := medianRun x s

/-- `RUN.MEDS` (R78). -/
def execRunMeds (x : Sample) (s : State) : Result := medianRun x s

end Sys2Proof.Machine
end

