-- ==== Sys2Proof/Machine/Trackers.lean ====
section
/-! DEFINITION. The adaptive trackers (45_trackers.md). Comparisons are on exact integers (R80). The
readings of D0's prose are the spec's, from general knowledge: PRESUMED, log entries 8 (R81) and 9
(R83). -/

namespace Sys2Proof.Machine

/-- One threshold of the upward cascade (R81): strict, tested against the `h` just updated. -/
def trkfUpStep (x h d : Int) : Int := if x > h + d then h + d else h

/-- One threshold of the downward cascade (R81). -/
def trkfDownStep (x h d : Int) : Int := if x < h - d then h - d else h

/-- Where `RUN.TRKF` moves the estimate `h` for the sample `x` (R81). -/
def trkfMove (x h : Int) : Int :=
  if x > h then trkThresholds.foldl (trkfUpStep x) h + 1
  else if x < h then trkThresholds.foldl (trkfDownStep x) h - 1
  else h

/-- `RUN.TRKF` (R80, R81): the updated estimate is stored and answered. -/
def execRunTrkf (x : Sample) (s : State) : Result :=
  let h := wrap16 (trkfMove (sext16 x) (sext16 s.helper))
  respond h { s with helper := h }

/-- Whether `RUN.TRKS` is a qualifying update: the sample lies beyond the deadband (R83). -/
abbrev trksQualifies (x h : Int) : Prop := x > h + trkDeadband ∨ x < h - trkDeadband

/-- The counter inside a run of `RUN.TRKS`, after its increment and before its reset test (R83). -/
def trksCount (x h : Int) (c : Nat) : Nat :=
  if trksQualifies x h then c + 1 else c

/-- Where `RUN.TRKS` moves the estimate `h` for the sample `x`, with `c` the counter before the run
(R83): the catch-up step scaled by the incremented counter, then the unit step in the direction of
the side `x` was on at entry. -/
def trksMove (x h : Int) (c : Nat) : Int :=
  if x > h then
    (if x > h + trkDeadband then h + trkDeadband * (trksCount x h c : Int) else h) + 1
  else if x < h then
    (if x < h - trkDeadband then h - trkDeadband * (trksCount x h c : Int) else h) - 1
  else h

/-- The reset test at the end of a run of `RUN.TRKS` (R83, 90_conflicts.md C3). -/
def trksStore (c : Nat) : BitVec 4 := if c > ctrMax then 0#4 else BitVec.ofNat 4 c

/-- `RUN.TRKS` (R80, R83, R85). The counter is read as an exact number, so the rule's text is followed
in a state whose counter exceeds 10 too (log entry 17). -/
def execRunTrks (x : Sample) (s : State) : Result :=
  let h := wrap16 (trksMove (sext16 x) (sext16 s.helper) s.stepCounter.toNat)
  let c := trksStore (trksCount (sext16 x) (sext16 s.helper) s.stepCounter.toNat)
  respond h { s with helper := h, stepCounter := c }

end Sys2Proof.Machine
end

