-- ==== Sys2Proof/Machine/Run.lean ====
section
/-! DEFINITION. The `RUN` command: dispatch on the state (46_run_dispatch.md). -/

namespace Sys2Proof.Machine

/-- `RUN` (R88): the two configuration checks first (R89), then exactly one operation body, which
ends with its own response. `order` is examined in the two IIR modes only. -/
def execRun (x : Sample) (s : State) : Result :=
  match s.mode with
  | .unset => raiseError .modeUnset s
  | .cheb =>
    match s.order with
    | .unset => raiseError .orderUnset s
    | .one => execRunCheb1 x s
    | .two => execRunCheb2 x s
  | .bess =>
    match s.order with
    | .unset => raiseError .orderUnset s
    | .one => execRunBess1 x s
    | .two => execRunBess2 x s
  | .medf => execRunMedf x s
  | .medr => execRunMedr x s
  | .meds => execRunMeds x s
  | .trkf => execRunTrkf x s
  | .trks => execRunTrks x s

end Sys2Proof.Machine
end

