-- ==== Sys2Proof/Machine/Dispatch.lean ====
section
/-! DEFINITION. Which meaning each instruction has. -/

namespace Sys2Proof.Machine

def exec (i : Instr) (s : State) : Host.Outcome State Fault Refusal :=
  match i with
  | .new => Sys2Proof.Machine.execNew s
  | .configure => Sys2Proof.Machine.execConfigure s
  | .setFilter m => Sys2Proof.Machine.execSetFilter m s
  | .setOrder n => Sys2Proof.Machine.execSetOrder n s
  | .run x => Sys2Proof.Machine.execRun x s
  | .runCheb1 x => Sys2Proof.Machine.execRunCheb1 x s
  | .runCheb2 x => Sys2Proof.Machine.execRunCheb2 x s
  | .runBess1 x => Sys2Proof.Machine.execRunBess1 x s
  | .runBess2 x => Sys2Proof.Machine.execRunBess2 x s
  | .runMedf x => Sys2Proof.Machine.execRunMedf x s
  | .runMedr x => Sys2Proof.Machine.execRunMedr x s
  | .runMeds x => Sys2Proof.Machine.execRunMeds x s
  | .runTrkf x => Sys2Proof.Machine.execRunTrkf x s
  | .runTrks x => Sys2Proof.Machine.execRunTrks x s

end Sys2Proof.Machine
end

