-- ==== Sys2Proof/Machine/Transact.lean ====
section
/-! DEFINITION. One command, executed whole: decode the word, then run the instruction, or take the
decoder's exception (30_encoding.md R50, 60_exceptions.md R97). -/

namespace Sys2Proof.Machine

/-- The transaction of one accepted command word (20_memory.md R34): the state after it holds its
writes and its response. -/
def transact (w : CmdWord) (s : State) : Result :=
  match decode w with
  | .error _ => raiseError .illegalCommand s
  | .ok i => exec i s

end Sys2Proof.Machine
end

