-- ==== Sys2Proof/Machine/Step.lean ====
section
/-! DEFINITION. One step: what the host presents next is taken and served (00_scope.md R10). -/

namespace Sys2Proof.Machine

/-- One step. Nothing presented: the block idles (30_encoding.md R52). Reset: R107. A command: its
transaction, on the state the earlier commands left (20_memory.md R34). -/
def step (s : State) : Host.Outcome State Fault Refusal :=
  match s.pending with
  | [] => .next s.idle
  | .reset :: rest => .next (s.take rest).pinReset
  | .command w :: rest => transact w (s.take rest)

/-- `s` with the command word of the opcode table as the next thing the host presents. The block has
no memory to place a program in (10_state.md R19): a program is the host's command list, log entry 1. -/
def State.withFetchWord (s : State) (nbits w : Nat) : State := s.offer (tableWord nbits w)

end Sys2Proof.Machine
end

