-- ==== Sys2Proof/Machine/Port.lean ====
section
/-! DEFINITION. The clocked command port: the pins and the handshake of 30_encoding.md R51, R52 and
70_reset_and_hazards.md R107, one rising clock edge at a time, around the engine that `transact`
serves. No result depends on it ("the normative behaviour is the transaction-level one", R51). -/

namespace Sys2Proof.Machine

/-- The input pins sampled at a rising edge (30_encoding.md R51). -/
structure PinsIn where
  rst      : Bool
  cmdValid : Bool
  cmd      : CmdWord
  deriving DecidableEq, Repr

/-- The output pins between two edges (30_encoding.md R51). `rsp` is `some r` for `rsp_valid = 1` with
`r` on the pins, and `none` for `rsp_valid = 0`, where the pins mean nothing. -/
structure PinsOut where
  cmdReady : Bool
  rsp      : Option RspWord
  deriving DecidableEq, Repr

/-- Where the port stands in the handshake (30_encoding.md R52). -/
inductive Phase where
  /-- no command in flight, `cmd_ready = 1` -/
  | ready
  /-- a command in flight whose response comes `left + 1` edges later, `cmd_ready = 0` -/
  | busy (cmd : CmdWord) (left : Nat)
  /-- the response of the last command is presented; `cmd_ready` is `readyNow` -/
  | responding (readyNow : Bool)
  deriving DecidableEq, Repr

/-- The clocked port around an engine. `accepted` is the model's own counter: it draws the free
latencies and nothing else (log entry 14). -/
structure Port where
  engine   : State
  phase    : Phase
  accepted : Nat
  deriving DecidableEq, Repr

/-- The output pins, a function of the port's state alone (DESIGN CHOICE, log entry 15). -/
def Port.out (p : Port) : PinsOut :=
  match p.phase with
  | .ready => { cmdReady := true, rsp := none }
  | .busy _ _ => { cmdReady := false, rsp := none }
  | .responding readyNow => { cmdReady := readyNow, rsp := p.engine.rsp }

/-- The command's state update completes and its response is presented in the next cycle (R52). A
transaction that did not answer a next state would leave the port waiting; none does. -/
def Port.complete (p : Port) (cmd : CmdWord) : Port :=
  match transact cmd p.engine with
  | .next t =>
    { p with engine := t, phase := .responding (Config.readyWithResponse p.accepted) }
  | .fault _ => { p with phase := .busy cmd 0 }
  | .refused _ => { p with phase := .busy cmd 0 }

/-- An edge with a command in flight: it completes when no cycles are left. -/
def Port.advance (p : Port) (cmd : CmdWord) : Nat → Port
  | 0 => p.complete cmd
  | k + 1 => { p with phase := .busy cmd k }

/-- A command is accepted: its response is presented `LAT` cycles later, with
`LAT = Config.extraLatency n + 1` for the n-th accepted command (R52). -/
def Port.accept (p : Port) (cmd : CmdWord) : Port :=
  { p with accepted := p.accepted + 1 }.advance cmd (Config.extraLatency p.accepted)

/-- No command is in flight and none is accepted. -/
def Port.rest (p : Port) : Port := { p with engine := p.engine.idle, phase := .ready }

/-- Whether a command is accepted at this edge (R52): `rst = 0`, `cmd_valid = 1`, `cmd_ready = 1`. -/
def Port.accepts (p : Port) (pins : PinsIn) : Bool :=
  !pins.rst && pins.cmdValid && p.out.cmdReady

/-- One rising clock edge (R52, R107). -/
def Port.clock (p : Port) (pins : PinsIn) : Port :=
  if pins.rst then { p with engine := p.engine.pinReset, phase := .ready }
  else if p.accepts pins then p.accept pins.cmd
  else
    match p.phase with
    | .ready => p.rest
    | .busy cmd left => p.advance cmd left
    | .responding _ => p.rest

/-- The port after a list of edges. -/
def Port.run (p : Port) : List PinsIn → Port
  | [] => p
  | pins :: more => (p.clock pins).run more

/-- The command words accepted during a list of edges, in order. -/
def Port.acceptedWords (p : Port) : List PinsIn → List CmdWord
  | [] => []
  | pins :: more =>
    if p.accepts pins then pins.cmd :: (p.clock pins).acceptedWords more
    else (p.clock pins).acceptedWords more

/-- The response words presented in the cycles after each of a list of edges, in order. -/
def Port.responses (p : Port) : List PinsIn → List RspWord
  | [] => []
  | pins :: more =>
    match (p.clock pins).out.rsp with
    | some r => r :: (p.clock pins).responses more
    | none => (p.clock pins).responses more

end Sys2Proof.Machine
end

