-- ==== Sys2Proof/Machine/Text.lean ====
section
/-! DEFINITION. The textual form of commands and responses (30_encoding.md R48). No step reads it. -/

namespace Sys2Proof.Machine

/-- The mode names of R48; `unset` is text too, which the block refuses at execution. -/
def modeText : FilterMode → String
  | .unset => "unset"
  | .cheb => "cheb"
  | .bess => "bess"
  | .medf => "medf"
  | .medr => "medr"
  | .meds => "meds"
  | .trkf => "trkf"
  | .trks => "trks"

/-- The text of `RUN x` (R48). -/
def runText (x : Sample) : String := "run " ++ toString (sext16 x)

/-- The text of a command (R48): lower case, the argument in decimal with a leading `-` for
negatives, or a mode name. A run operation has no text of its own; it is written as the `RUN` that
carries it (R40). -/
def commandText : Instr → String
  | .new => "new"
  | .configure => "configure"
  | .setFilter m => "set_filter " ++ modeText m
  | .setOrder n => "set_order " ++ toString (sext16 n)
  | .run x => runText x
  | .runCheb1 x => runText x
  | .runCheb2 x => runText x
  | .runBess1 x => runText x
  | .runBess2 x => runText x
  | .runMedf x => runText x
  | .runMedr x => runText x
  | .runMeds x => runText x
  | .runTrkf x => runText x
  | .runTrks x => runText x

/-- The cause names of 60_exceptions.md R95. -/
def causeText : Cause → String
  | .illegalCommand => "ILLEGAL_COMMAND"
  | .badMode => "BAD_MODE"
  | .badOrder => "BAD_ORDER"
  | .modeUnset => "MODE_UNSET"
  | .orderUnset => "ORDER_UNSET"

/-- The cause of a code, if it is one of the five (60_exceptions.md R95). -/
def causeOfCode (data : Sample) : Option Cause :=
  match data.toNat with
  | 1 => some .illegalCommand
  | 2 => some .badMode
  | 3 => some .badOrder
  | 4 => some .modeUnset
  | 5 => some .orderUnset
  | _ => none

/-- The text of a response (R48): `ok` with the signed reading of `data`, or `err` with the cause
name; `none` for a word that the block never produces. -/
def responseText (r : RspWord) : Option String :=
  if rspErr r then (causeOfCode (rspData r)).map (fun c => "err " ++ causeText c)
  else some ("ok " ++ toString (sext16 (rspData r)))

end Sys2Proof.Machine
end

