-- ==== Sys2Proof/Safety.lean ====
section
/-! DEFINITION. What a safe state is, and what a host can see of a run, in the terms the claims use. -/

namespace Sys2Proof.Machine

/-- A response word the spec allows (30_encoding.md R39, 60_exceptions.md R95): a success, or one of
the five causes ("Codes 0 and 6 to 65535 are never produced"). -/
abbrev LegalResponse (r : RspWord) : Prop :=
  rspErr r = true → 1 ≤ (rspData r).toNat ∧ (rspData r).toNat ≤ 5

/-- The invariant of the machine: the counter's range (10_state.md R25) and legal responses. -/
structure State.Inv (s : State) : Prop where
  counter : s.stepCounter.toNat ≤ 10
  response : ∀ r, s.rsp = some r → LegalResponse r

/-- Two states with the same seven registers (10_state.md R13); their ports may differ. -/
structure State.SameRegisters (s t : State) : Prop where
  w0 : s.w0 = t.w0
  w1 : s.w1 = t.w1
  w2 : s.w2 = t.w2
  helper : s.helper = t.helper
  stepCounter : s.stepCounter = t.stepCounter
  mode : s.mode = t.mode
  order : s.order = t.order

/-- The window operations (41_window_shifter.md R61): the run operations that use the window, with
their sample. -/
def windowOp : Instr → Bool
  | .runCheb1 _ => true
  | .runCheb2 _ => true
  | .runBess1 _ => true
  | .runBess2 _ => true
  | .runMedf _ => true
  | .runMedr _ => true
  | .runMeds _ => true
  | .new => false
  | .configure => false
  | .setFilter _ => false
  | .setOrder _ => false
  | .run _ => false
  | .runTrkf _ => false
  | .runTrks _ => false

/-- The tracker operations (45_trackers.md). -/
def trackerOp : Instr → Bool
  | .runTrkf _ => true
  | .runTrks _ => true
  | .new => false
  | .configure => false
  | .setFilter _ => false
  | .setOrder _ => false
  | .run _ => false
  | .runCheb1 _ => false
  | .runCheb2 _ => false
  | .runBess1 _ => false
  | .runBess2 _ => false
  | .runMedf _ => false
  | .runMedr _ => false
  | .runMeds _ => false

/-- The commands that write configuration (40_configuration.md): all but `RUN`. -/
def configOp : Instr → Bool
  | .new => true
  | .configure => true
  | .setFilter _ => true
  | .setOrder _ => true
  | .run _ => false
  | .runCheb1 _ => false
  | .runCheb2 _ => false
  | .runBess1 _ => false
  | .runBess2 _ => false
  | .runMedf _ => false
  | .runMedr _ => false
  | .runMeds _ => false
  | .runTrkf _ => false
  | .runTrks _ => false

/-- The table of 46_run_dispatch.md R93: the operation that `RUN` runs in each state of
configuration, if there is one. -/
def selected : FilterMode → FilterOrder → Sample → Option Instr
  | .unset, _, _ => none
  | .cheb, .unset, _ => none
  | .cheb, .one, x => some (.runCheb1 x)
  | .cheb, .two, x => some (.runCheb2 x)
  | .bess, .unset, _ => none
  | .bess, .one, x => some (.runBess1 x)
  | .bess, .two, x => some (.runBess2 x)
  | .medf, _, x => some (.runMedf x)
  | .medr, _, x => some (.runMedr x)
  | .meds, _, x => some (.runMeds x)
  | .trkf, _, x => some (.runTrkf x)
  | .trks, _, x => some (.runTrks x)

/-- The three median modes (44_median.md). -/
abbrev MedianMode (m : FilterMode) : Prop := m = .medf ∨ m = .medr ∨ m = .meds

/-- `m` is "the middle value when three numbers are ordered" (00_scope.md R8): one of the three, with
the other two on its two sides. -/
abbrev MiddleOf (m a b c : Int) : Prop :=
  (m = a ∧ (b ≤ a ∧ a ≤ c ∨ c ≤ a ∧ a ≤ b)) ∨
  (m = b ∧ (a ≤ b ∧ b ≤ c ∨ c ≤ b ∧ b ≤ a)) ∨
  (m = c ∧ (a ≤ c ∧ c ≤ b ∨ b ≤ c ∧ c ≤ a))

/-- The command word of `RUN x` (30_encoding.md R40). -/
def runWord (x : Sample) : CmdWord := commandWord 4#3 x

/-- The state after a list of command words, each one transaction on the state the earlier ones left
(20_memory.md R34); `none` if one did not answer a next state. -/
def afterCommands : List CmdWord → State → Option State
  | [], s => some s
  | w :: ws, s =>
    match transact w s with
    | .next t => afterCommands ws t
    | .fault _ => none
    | .refused _ => none

/-- The responses to a list of command words, in order. -/
def responsesTo : List CmdWord → State → List (Option RspWord)
  | [], _ => []
  | w :: ws, s =>
    match transact w s with
    | .next t => t.rsp :: responsesTo ws t
    | .fault _ => []
    | .refused _ => []

/-- The state after a number of steps; `none` if one did not answer a next state. -/
def afterSteps : Nat → State → Option State
  | 0, s => some s
  | n + 1, s =>
    match step s with
    | .next t => afterSteps n t
    | .fault _ => none
    | .refused _ => none

/-- What the response port shows over a number of steps. -/
def observe : Nat → State → List (Option RspWord)
  | 0, _ => []
  | n + 1, s =>
    match step s with
    | .next t => t.rsp :: observe n t
    | .fault _ => []
    | .refused _ => []

end Sys2Proof.Machine
end

