-- ==== Sys2Proof/Certificates/Slice0/Obligations.lean ====
section
/-! DEFINITION. The statements for the provers, from the numbered rules of spec/. A response word is
written out: `0x00000` is `ok 0`, `0x1000c` is the error with cause c (30_encoding.md R39). -/

open Sys2Proof Sys2Proof.Machine

/-! ## Encoding -/

/-- Words of 95_test_vectors.md V-DEC and P1 to P7, written from 30_encoding.md R40, decode to the
commands they stand for, and illegal words are refused under the name of their rule. -/
def Obligations.SpecWordsDecode : Prop :=
  decode 0x00000#19 = .ok .new ∧
  decode 0x10000#19 = .ok .configure ∧
  decode 0x20002#19 = .ok (.setFilter .bess) ∧
  decode 0x20005#19 = .ok (.setFilter .meds) ∧
  decode 0x20000#19 = .ok (.setFilter .unset) ∧
  decode 0x30002#19 = .ok (.setOrder 2#16) ∧
  decode 0x3FFFF#19 = .ok (.setOrder (-1)) ∧
  decode 0x40064#19 = .ok (.run 100#16) ∧
  decode 0x4FF9C#19 = .ok (.run (-100)) ∧
  decode 0x00001#19 = .error .reservedArgument ∧
  decode 0x10001#19 = .error .reservedArgument ∧
  decode 0x20008#19 = .error .reservedArgument ∧
  decode 0x50000#19 = .error .reservedOpcode ∧
  decode 0x7FFFF#19 = .error .reservedOpcode

/-- Decode and encode agree: a well-formed instruction (a command of R40) decodes from its word, with
every operand at every value; and the word of a run operation is the `RUN` word of its sample (R40:
"the latter with the same `match`/`mask` as `RUN`"). -/
def Obligations.DecodeEncode : Prop :=
  (∀ i : Instr, i.wellFormed = true → decode (encode i) = .ok i) ∧
  (∀ i : Instr, decode (encode i) = .ok i.carrier)

/-- Every word has one meaning: a word that decodes is the encoding of the well-formed instruction it
decodes to, so no bit of a command word is dropped (R38, R46). -/
def Obligations.EncodeDecode : Prop :=
  ∀ (w : CmdWord) (i : Instr), decode w = .ok i → encode i = w ∧ i.wellFormed = true

/-- R50's `match`/`mask` pairs select exactly what its decoder lines select, and a word that matches
none of the five is illegal. -/
def Obligations.DecoderMatchMask : Prop :=
  ∀ w : CmdWord,
    (w &&& 0x7FFFF#19 = 0x00000#19 ↔ decode w = .ok .new) ∧
    (w &&& 0x7FFFF#19 = 0x10000#19 ↔ decode w = .ok .configure) ∧
    (w &&& 0x7FFF8#19 = 0x20000#19 ↔
      ∃ m : FilterMode, m.code = w.setWidth 3 ∧ decode w = .ok (.setFilter m)) ∧
    (w &&& 0x70000#19 = 0x30000#19 ↔ decode w = .ok (.setOrder (w.setWidth 16))) ∧
    (w &&& 0x70000#19 = 0x40000#19 ↔ decode w = .ok (.run (w.setWidth 16))) ∧
    (w &&& 0x7FFFF#19 ≠ 0x00000#19 → w &&& 0x7FFFF#19 ≠ 0x10000#19 →
      w &&& 0x7FFF8#19 ≠ 0x20000#19 → w &&& 0x70000#19 ≠ 0x30000#19 →
      w &&& 0x70000#19 ≠ 0x40000#19 → ∃ e, decode w = .error e)

/-- R48: the words of the assembler text, by arithmetic on the operand: `0x20000 + code`,
`0x30000 + (n mod 65536)`, `0x40000 + (x mod 65536)`. -/
def Obligations.AssemblerWords : Prop :=
  (encode .new).toNat = 0x00000 ∧ (encode .configure).toNat = 0x10000 ∧
  (∀ m : FilterMode, (encode (.setFilter m)).toNat = 0x20000 + m.code.toNat) ∧
  (∀ n : Int, -32768 ≤ n → n ≤ 32767 →
    ((encode (.setOrder (wrap16 n))).toNat : Int) = 0x30000 + n % 65536) ∧
  (∀ x : Int, -32768 ≤ x → x ≤ 32767 →
    ((encode (.run (wrap16 x))).toNat : Int) = 0x40000 + x % 65536)

/-- R48 and R95: every response the block gives has a text, and the text of an error names its
cause. -/
def Obligations.ResponsesHaveText : Prop :=
  ∀ (w : CmdWord) (s t : State) (r : RspWord), transact w s = .next t → t.rsp = some r →
    (rspErr r = false → responseText r = some ("ok " ++ toString (rspData r).toInt)) ∧
    (rspErr r = true → ∃ c : Cause, r = errorWord c ∧ responseText r = some ("err " ++ causeText c))

/-! ## Reset -/

/-- R108: what reset leaves. -/
def Obligations.ResetState : Prop :=
  State.reset.w0 = 0#16 ∧ State.reset.w1 = 0#16 ∧ State.reset.w2 = 0#16 ∧
  State.reset.helper = 0#16 ∧ State.reset.stepCounter = 0#4 ∧
  State.reset.mode = .unset ∧ State.reset.mode.code = 0#3 ∧
  State.reset.order = .unset ∧ State.reset.order.code = 0#2

/-- R107: the reset pin, from any state, sets every register to zero and presents no response; the
state effect is exactly that of `NEW`. What the host has not presented yet stays (the model's choice,
log entry 1). -/
def Obligations.ResetPin : Prop :=
  ∀ (s : State) (rest : List HostInput), s.pending = .reset :: rest →
    step s = .next { State.reset with pending := rest } ∧
    ∀ t : State, exec .new s = .next t → t.SameRegisters State.reset

/-! ## Configuration -/

/-- R53: `NEW` zeroes every register, in every state, and answers `ok 0`; with a non-zero argument
nothing is written. -/
def Obligations.NewResult : Prop :=
  ∀ s : State,
    exec .new s = .next
      { w0 := 0#16, w1 := 0#16, w2 := 0#16, helper := 0#16, stepCounter := 0#4, mode := .unset,
        order := .unset, rsp := some 0x00000#17, pending := s.pending } ∧
    transact 0x00000#19 s = exec .new s ∧
    ∀ arg : Sample, arg ≠ 0#16 →
      transact (commandWord 0#3 arg) s = .next { s with rsp := some 0x10001#17 }

/-- R54: `CONFIGURE` sets mode Chebyshev and order 1 and answers `ok 0`; it writes nothing else, and
with a non-zero argument it writes nothing. -/
def Obligations.ConfigureResult : Prop :=
  ∀ s : State,
    exec .configure s =
      .next { s with mode := .cheb, order := .one, rsp := some 0x00000#17 } ∧
    transact 0x10000#19 s = exec .configure s ∧
    ∀ arg : Sample, arg ≠ 0#16 →
      transact (commandWord 1#3 arg) s = .next { s with rsp := some 0x10001#17 }

/-- R55: `SET_FILTER` with a code 1 to 7 sets the mode, whatever the order is, and writes nothing
else; code 0 is refused with `BAD_MODE` and non-zero reserved bits with `ILLEGAL_COMMAND`, checked
first. -/
def Obligations.SetFilterResult : Prop :=
  ∀ s : State,
    (∀ m : FilterMode, m ≠ .unset →
      exec (.setFilter m) s = .next { s with mode := m, rsp := some 0x00000#17 }) ∧
    exec (.setFilter .unset) s = .next { s with rsp := some 0x10002#17 } ∧
    ∀ arg : Sample,
      (8 ≤ arg.toNat →
        transact (commandWord 2#3 arg) s = .next { s with rsp := some 0x10001#17 }) ∧
      (arg.toNat = 0 →
        transact (commandWord 2#3 arg) s = .next { s with rsp := some 0x10002#17 }) ∧
      (1 ≤ arg.toNat → arg.toNat ≤ 7 →
        ∃ m : FilterMode, m.code.toNat = arg.toNat ∧
          transact (commandWord 2#3 arg) s =
            .next { s with mode := m, rsp := some 0x00000#17 })

/-- R56: `SET_ORDER` accepts 1 and 2, whatever the mode is, and writes nothing but the order; every
other argument, read as signed, is refused with `BAD_ORDER`. -/
def Obligations.SetOrderResult : Prop :=
  ∀ (s : State) (n : Sample),
    transact (commandWord 3#3 n) s = exec (.setOrder n) s ∧
    (n.toInt = 1 →
      exec (.setOrder n) s = .next { s with order := .one, rsp := some 0x00000#17 }) ∧
    (n.toInt = 2 →
      exec (.setOrder n) s = .next { s with order := .two, rsp := some 0x00000#17 }) ∧
    (n.toInt ≠ 1 → n.toInt ≠ 2 →
      exec (.setOrder n) s = .next { s with rsp := some 0x10003#17 })

/-- R57 and R24: no word but those of `NEW` and `RUN`, accepted or refused, changes the window,
`helper` or `step_counter`. -/
def Obligations.DataSurvivesConfiguration : Prop :=
  ∀ (w : CmdWord) (s t : State), cmdOp w ≠ 0#3 → cmdOp w ≠ 4#3 → transact w s = .next t →
    t.w0 = s.w0 ∧ t.w1 = s.w1 ∧ t.w2 = s.w2 ∧ t.helper = s.helper ∧
    t.stepCounter = s.stepCounter ∧ t.pending = s.pending

/-- R57: a configuration command executed twice in a row leaves the state it left once, and gives the
same response. -/
def Obligations.ConfigurationIdempotent : Prop :=
  ∀ (i : Instr) (s t : State), configOp i = true → exec i s = .next t → exec i t = .next t

/-- R49: `configure` has the effect and the response of `set_filter cheb` then `set_order 1`. -/
def Obligations.ConfigureIsTwoCommands : Prop :=
  ∀ s t : State, exec (.setFilter .cheb) s = .next t → exec (.setOrder 1#16) t = exec .configure s

/-- R109: the two setters may come in either order: the same state, and both succeed. -/
def Obligations.SettersCommute : Prop :=
  ∀ (s : State) (m : FilterMode) (n : Sample), m ≠ .unset → (n.toInt = 1 ∨ n.toInt = 2) →
    ∃ t : State,
      afterCommands [encode (.setFilter m), encode (.setOrder n)] s = some t ∧
      afterCommands [encode (.setOrder n), encode (.setFilter m)] s = some t ∧
      t.mode = m ∧ (t.order.code.toNat : Int) = n.toInt

/-! ## The IIR operations -/

/-- R68: `RUN.CHEB1`, and `RUN` where the state selects it. The stored value never needs
truncation. -/
def Obligations.RunCheb1Result : Prop :=
  ∀ (s : State) (x : Sample),
    let tmp : Int :=
      (x.toInt * 3269048 / 4 + s.w2.toInt * 3701023 / 8 + 1048576) / 2097152
    let t : State :=
      { s with
        w0 := s.w1, w1 := s.w2, w2 := BitVec.ofInt 16 tmp
        rsp := some ((BitVec.ofInt 16 (s.w2.toInt + tmp)).setWidth 17) }
    exec (.runCheb1 x) s = .next t ∧
    (s.mode = .cheb → s.order = .one →
      exec (.run x) s = .next t ∧ transact (commandWord 4#3 x) s = .next t) ∧
    -19998 ≤ tmp ∧ tmp ≤ 19998 ∧ -52766 ≤ s.w2.toInt + tmp ∧ s.w2.toInt + tmp ≤ 52765

/-- R69: `RUN.CHEB2`, and `RUN` where the state selects it. Rests on the spec's G1 and G2 (per-term
shifts and operand pairing, log entries 6 and 7). -/
def Obligations.RunCheb2Result : Prop :=
  ∀ (s : State) (x : Sample),
    let tmp : Int :=
      (x.toInt * 662828 / 16 + s.w1.toInt * (-540791) / 2 + s.w2.toInt * 628977 + 262144) / 524288
    let v : Sample := BitVec.ofInt 16 tmp
    let t : State :=
      { s with
        w0 := s.w1, w1 := s.w2, w2 := v
        rsp := some ((BitVec.ofInt 16 (s.w1.toInt + v.toInt + 2 * s.w2.toInt)).setWidth 17) }
    exec (.runCheb2 x) s = .next t ∧
    (s.mode = .cheb → s.order = .two →
      exec (.run x) s = .next t ∧ transact (commandWord 4#3 x) s = .next t) ∧
    -58799 ≤ tmp ∧ tmp ≤ 58799

/-- R73: `RUN.BESS1`, and `RUN` where the state selects it. Rests on the spec's G1 (per-term shifts,
log entry 6). The stored value never needs truncation. -/
def Obligations.RunBess1Result : Prop :=
  ∀ (s : State) (x : Sample),
    let tmp : Int :=
      (x.toInt * 2057199 / 8 + s.w2.toInt * 1068552 / 2 + 524288) / 1048576
    let t : State :=
      { s with
        w0 := s.w1, w1 := s.w2, w2 := BitVec.ofInt 16 tmp
        rsp := some ((BitVec.ofInt 16 (s.w2.toInt + tmp)).setWidth 17) }
    exec (.runBess1 x) s = .next t ∧
    (s.mode = .bess → s.order = .one →
      exec (.run x) s = .next t ∧ transact (commandWord 4#3 x) s = .next t) ∧
    -24732 ≤ tmp ∧ tmp ≤ 24731 ∧ -57500 ≤ s.w2.toInt + tmp ∧ s.w2.toInt + tmp ≤ 57498

/-- R74: `RUN.BESS2`, and `RUN` where the state selects it. Rests on the spec's G1 and G2 (log entries
6 and 7). -/
def Obligations.RunBess2Result : Prop :=
  ∀ (s : State) (x : Sample),
    let tmp : Int :=
      (x.toInt * 759505 / 16 + s.w1.toInt * (-1011418) / 8 + s.w2.toInt * 921678 / 2 + 262144) /
        524288
    let v : Sample := BitVec.ofInt 16 tmp
    let t : State :=
      { s with
        w0 := s.w1, w1 := s.w2, w2 := v
        rsp := some ((BitVec.ofInt 16 (s.w1.toInt + v.toInt + 2 * s.w2.toInt)).setWidth 17) }
    exec (.runBess2 x) s = .next t ∧
    (s.mode = .bess → s.order = .two →
      exec (.run x) s = .next t ∧ transact (commandWord 4#3 x) s = .next t) ∧
    -39671 ≤ tmp ∧ tmp ≤ 39670

/-- R65: over all 16-bit samples and slots, every product of the four tables fits 38 bits signed, and
the accumulator with its rounding add stays in the ranges of 95_test_vectors.md V-IIR-8: the exact
intermediates of the model are those of any accumulator of at least 38 bits. -/
def Obligations.AccumulatorRanges : Prop :=
  ∀ x a b : Sample,
    (∀ k ∈ [cheb1Row.kX, cheb1Row.kPrev, bess1Row.kX, bess1Row.kPrev, cheb2Row.kX,
        cheb2Row.kOlder, cheb2Row.kNewer, bess2Row.kX, bess2Row.kOlder, bess2Row.kNewer],
      -137438953472 ≤ x.toInt * k ∧ x.toInt * k < 137438953472) ∧
    -41938382848 ≤ iir1Acc cheb1Row x.toInt a.toInt + cheb1Row.add ∧
    iir1Acc cheb1Row x.toInt a.toInt + cheb1Row.add ≤ 41939200110 ∧
    -25932918784 ≤ iir1Acc bess1Row x.toInt a.toInt + bess1Row.add ∧
    iir1Acc bess1Row x.toInt a.toInt + bess1Row.add ≤ 25933175934 ∧
    -30827577285 ≤ iir2Acc cheb2Row x.toInt a.toInt b.toInt + cheb2Row.add ∧
    iir2Acc cheb2Row x.toInt a.toInt b.toInt + cheb2Row.add ≤ 30827701564 ∧
    -20798618149 ≤ iir2Acc bess2Row x.toInt a.toInt b.toInt + bess2Row.add ∧
    iir2Acc bess2Row x.toInt a.toInt b.toInt + bess2Row.add ≤ 20798760555

/-- R8: `wrap16(i)` is the unique integer of the 16-bit range congruent to `i`. -/
def Obligations.Wrap16Unique : Prop :=
  ∀ i r : Int,
    (-32768 ≤ r ∧ r ≤ 32767 ∧ (r - i) % 65536 = 0) ↔ r = (wrap16 i).toInt

/-! ## The median -/

/-- R118, R76, R77, R78, R79: each median operation shifts the sample in and answers the middle of the
three newest samples; the three operations are one function; and so is `RUN` in the three median
modes, whatever the order is. -/
def Obligations.MedianResult : Prop :=
  ∀ (s : State) (x : Sample), ∃ m : Sample,
    MiddleOf m.toInt s.w1.toInt s.w2.toInt x.toInt ∧
    let t : State := { s with w0 := s.w1, w1 := s.w2, w2 := x, rsp := some (m.setWidth 17) }
    exec (.runMedf x) s = .next t ∧ exec (.runMedr x) s = .next t ∧
    exec (.runMeds x) s = .next t ∧
    (MedianMode s.mode → exec (.run x) s = .next t ∧ transact (commandWord 4#3 x) s = .next t)

/-- R27: after at least three successful median runs in a row the window holds the last three samples,
oldest first, whatever it held before. -/
def Obligations.MedianWindow : Prop :=
  ∀ (s : State) (xs : List Sample) (a b c : Sample), MedianMode s.mode →
    ∃ t : State, afterCommands ((xs ++ [a, b, c]).map runWord) s = some t ∧
      t.w0 = a ∧ t.w1 = b ∧ t.w2 = c

/-- R112 and R76: from reset, the first median response is 0 for any sample and the second is the
middle of 0 and the two samples: unfilled slots hold 0. -/
def Obligations.MedianStartUp : Prop :=
  ∀ (m : FilterMode) (x1 x2 : Sample), MedianMode m → ∃ y : Sample,
    MiddleOf y.toInt 0 x1.toInt x2.toInt ∧
    responsesTo [encode (.setFilter m), runWord x1, runWord x2] State.reset =
      [some 0x00000#17, some 0x00000#17, some (y.setWidth 17)]

/-! ## The trackers -/

/-- R81 and R80: `RUN.TRKF`, and `RUN` in mode `TRKF`: the cascade, each test against the `h` just
updated, then the unit step; `wrap16` on store is the identity. Rests on the spec's reading G3 of D0's
prose (log entry 8). -/
def Obligations.RunTrkfResult : Prop :=
  ∀ (s : State) (x : Sample),
    let d : Int := x.toInt
    let u0 : Int := s.helper.toInt
    let u1 := if d > u0 + 512 then u0 + 512 else u0
    let u2 := if d > u1 + 128 then u1 + 128 else u1
    let u3 := if d > u2 + 32 then u2 + 32 else u2
    let u4 := if d > u3 + 8 then u3 + 8 else u3
    let v1 := if d < u0 - 512 then u0 - 512 else u0
    let v2 := if d < v1 - 128 then v1 - 128 else v1
    let v3 := if d < v2 - 32 then v2 - 32 else v2
    let v4 := if d < v3 - 8 then v3 - 8 else v3
    let h : Int := if d > u0 then u4 + 1 else if d < u0 then v4 - 1 else u0
    let t : State :=
      { s with
        helper := BitVec.ofInt 16 h, rsp := some ((BitVec.ofInt 16 h).setWidth 17) }
    exec (.runTrkf x) s = .next t ∧
    (s.mode = .trkf → exec (.run x) s = .next t ∧ transact (commandWord 4#3 x) s = .next t) ∧
    (BitVec.ofInt 16 h).toInt = h

/-- R82 a: no overshoot: the new `helper` lies between the old one and the sample, and it moves
whenever they differ. -/
def Obligations.TrkfNoOvershoot : Prop :=
  ∀ (s t : State) (x : Sample), exec (.runTrkf x) s = .next t →
    (s.helper.toInt < x.toInt → s.helper.toInt < t.helper.toInt ∧ t.helper.toInt ≤ x.toInt) ∧
    (x.toInt < s.helper.toInt → x.toInt ≤ t.helper.toInt ∧ t.helper.toInt < s.helper.toInt) ∧
    (x = s.helper → t.helper = s.helper)

/-- R82 b: the movement as a function of the gap, with its largest value 681. -/
def Obligations.TrkfMovement : Prop :=
  ∀ (s t : State) (x : Sample), exec (.runTrkf x) s = .next t →
    let gap : Nat := (x.toInt - s.helper.toInt).natAbs
    let move : Nat := (t.helper.toInt - s.helper.toInt).natAbs
    (gap = 0 → move = 0) ∧ (1 ≤ gap → gap ≤ 8 → move = 1) ∧ (9 ≤ gap → gap ≤ 32 → move = 9) ∧
    (33 ≤ gap → gap ≤ 40 → move = 33) ∧ (gap = 41 → move = 41) ∧ (681 ≤ gap → move = 681) ∧
    move ≤ 681

/-- R82 c and D0's testable property: with the sample held constant, `helper` reaches it after at most
as many runs as the gap, and stays. -/
def Obligations.TrkfConverges : Prop :=
  ∀ (s : State) (x : Sample) (n : Nat), s.mode = .trkf →
    (x.toInt - s.helper.toInt).natAbs ≤ n →
    ∃ t : State, afterCommands (List.replicate n (runWord x)) s = some t ∧ t.helper = x

/-- R83 and R80: `RUN.TRKS`, and `RUN` in mode `TRKS`. Rests on the spec's reading G4 of D0's prose
(log entry 9). -/
def Obligations.RunTrksResult : Prop :=
  ∀ (s : State) (x : Sample),
    let d : Int := x.toInt
    let h0 : Int := s.helper.toInt
    let c0 : Nat := s.stepCounter.toNat
    let c1 : Nat := if d > h0 + 8 ∨ d < h0 - 8 then c0 + 1 else c0
    let h : Int :=
      if d > h0 then (if d > h0 + 8 then h0 + 8 * (c1 : Int) else h0) + 1
      else if d < h0 then (if d < h0 - 8 then h0 - 8 * (c1 : Int) else h0) - 1
      else h0
    let t : State :=
      { s with
        helper := BitVec.ofInt 16 h
        stepCounter := if c1 > 10 then 0#4 else BitVec.ofNat 4 c1
        rsp := some ((BitVec.ofInt 16 h).setWidth 17) }
    exec (.runTrks x) s = .next t ∧
    (s.mode = .trks → exec (.run x) s = .next t ∧ transact (commandWord 4#3 x) s = .next t)

/-- R84 a: from a counter in range, a qualifying update counts 0, 1, ..., 10, 0, ...; any other run
leaves the counter. -/
def Obligations.TrksCounter : Prop :=
  ∀ (s t : State) (x : Sample), s.stepCounter.toNat ≤ 10 → exec (.runTrks x) s = .next t →
    (8 < (x.toInt - s.helper.toInt).natAbs →
      t.stepCounter.toNat = (s.stepCounter.toNat + 1) % 11) ∧
    ((x.toInt - s.helper.toInt).natAbs ≤ 8 → t.stepCounter = s.stepCounter)

/-- R84 b, R84 c and R85: from a counter in range, the exact movement is at most 89 and passes the
sample by at most 80; so `helper` wraps only within 89 of a range end. -/
def Obligations.TrksMovement : Prop :=
  ∀ (s t : State) (x : Sample), s.stepCounter.toNat ≤ 10 → exec (.runTrks x) s = .next t →
    let h := trksMove x.toInt s.helper.toInt s.stepCounter.toNat
    (h - s.helper.toInt).natAbs ≤ 89 ∧
    (s.helper.toInt < x.toInt → h ≤ x.toInt + 80) ∧
    (x.toInt < s.helper.toInt → x.toInt - 80 ≤ h) ∧
    (-32679 ≤ s.helper.toInt → s.helper.toInt ≤ 32678 → t.helper.toInt = h)

/-- R84 d: once within the deadband of a constant input the "smoother" tracker converges to it and
stays, with its counter held. -/
def Obligations.TrksConvergesInDeadband : Prop :=
  ∀ (s : State) (x : Sample) (n : Nat), s.mode = .trks → s.stepCounter.toNat ≤ 10 →
    (x.toInt - s.helper.toInt).natAbs ≤ 8 → (x.toInt - s.helper.toInt).natAbs ≤ n →
    ∃ t : State, afterCommands (List.replicate n (runWord x)) s = some t ∧ t.helper = x ∧
      t.stepCounter = s.stepCounter

/-! ## RUN -/

/-- R88 and R93: in every state of configuration `RUN` either runs exactly the operation of the table,
which completes with a success response, or is refused. -/
def Obligations.RunDispatch : Prop :=
  ∀ (s : State) (x : Sample),
    transact (commandWord 4#3 x) s = exec (.run x) s ∧
    (∀ op : Instr, selected s.mode s.order x = some op →
      ∃ (t : State) (r : RspWord), exec (.run x) s = .next t ∧ exec op s = .next t ∧
        t.rsp = some r ∧ rspErr r = false) ∧
    (selected s.mode s.order x = none →
      exec (.run x) s =
        .next { s with rsp := some (if s.mode = .unset then 0x10004#17 else 0x10005#17) })

/-- R88 and R89: with no mode set, or with an IIR mode and no order set, `RUN` is refused with its
cause and no register changes: the sample is not consumed. -/
def Obligations.RunRefused : Prop :=
  ∀ (s : State) (x : Sample),
    (s.mode = .unset → exec (.run x) s = .next { s with rsp := some 0x10004#17 }) ∧
    ((s.mode = .cheb ∨ s.mode = .bess) → s.order = .unset →
      exec (.run x) s = .next { s with rsp := some 0x10005#17 })

/-- R23 and R90: no `RUN` and no run operation, successful or failed, writes `mode` or `order`; they
change only through the configuration commands, each of which writes its own register alone. -/
def Obligations.ModeAndOrderWriters : Prop :=
  (∀ (i : Instr) (s t : State), configOp i = false → exec i s = .next t →
    t.mode = s.mode ∧ t.order = s.order) ∧
  (∀ (w : CmdWord) (s t : State), transact w s = .next t →
    (t.mode ≠ s.mode → w = encode .new ∨ w = encode .configure ∨
      ∃ m : FilterMode, w = encode (.setFilter m)) ∧
    (t.order ≠ s.order → w = encode .new ∨ w = encode .configure ∨
      ∃ n : Sample, w = encode (.setOrder n)))

/-- R17, R18, R55: a mode or an order that has been set returns to `UNSET` only by `NEW`. -/
def Obligations.OnlyNewUnsets : Prop :=
  ∀ (w : CmdWord) (s t : State), transact w s = .next t →
    (s.mode ≠ .unset → t.mode = .unset → w = 0x00000#19) ∧
    (s.order ≠ .unset → t.order = .unset → w = 0x00000#19)

/-- R18 and R88: outside the two IIR modes the order has no effect on any response or state. -/
def Obligations.OrderIgnored : Prop :=
  ∀ (s t : State) (x : Sample) (o : FilterOrder), s.mode ≠ .cheb → s.mode ≠ .bess →
    exec (.run x) s = .next t → exec (.run x) { s with order := o } = .next { t with order := o }

/-! ## Frames -/

/-- R61 and R26: each window operation (`RUN.CHEB1`, `RUN.CHEB2`, `RUN.BESS1`, `RUN.BESS2`,
`RUN.MEDF`, `RUN.MEDR`, `RUN.MEDS`) shifts the window exactly once and leaves everything but the
window and the response unchanged. -/
def Obligations.WindowOperationFrame : Prop :=
  ∀ (i : Instr) (s t : State), windowOp i = true → exec i s = .next t →
    t.w0 = s.w1 ∧ t.w1 = s.w2 ∧ t.helper = s.helper ∧ t.stepCounter = s.stepCounter ∧
    t.mode = s.mode ∧ t.order = s.order ∧ t.pending = s.pending

/-- R86 and R26: the trackers leave the window, `mode` and `order` unchanged; `RUN.TRKF` leaves
`step_counter` unchanged too (R87). -/
def Obligations.TrackerFrame : Prop :=
  ∀ (i : Instr) (s t : State), trackerOp i = true → exec i s = .next t →
    t.w0 = s.w0 ∧ t.w1 = s.w1 ∧ t.w2 = s.w2 ∧ t.mode = s.mode ∧ t.order = s.order ∧
    t.pending = s.pending ∧ (∀ x : Sample, i = .runTrkf x → t.stepCounter = s.stepCounter)

/-- R15, R16, R61, R86: `RUN` changes `helper` only in the tracker modes, `step_counter` only in mode
`TRKS`, the window only in the window-using modes; and it changes no register when it is refused. -/
def Obligations.RunFrame : Prop :=
  ∀ (s t : State) (x : Sample), exec (.run x) s = .next t →
    t.mode = s.mode ∧ t.order = s.order ∧ t.pending = s.pending ∧
    (s.mode ≠ .trkf → s.mode ≠ .trks → t.helper = s.helper) ∧
    (s.mode ≠ .trks → t.stepCounter = s.stepCounter) ∧
    ((s.mode = .trkf ∨ s.mode = .trks ∨ selected s.mode s.order x = none) →
      t.w0 = s.w0 ∧ t.w1 = s.w1 ∧ t.w2 = s.w2) ∧
    (s.mode ≠ .trkf → s.mode ≠ .trks → selected s.mode s.order x ≠ none →
      t.w0 = s.w1 ∧ t.w1 = s.w2)

/-! ## Errors -/

/-- R96: an error response carries one of the causes and means that the command wrote no register;
nothing is sticky: every later list of commands is answered as if the refused command had not been
sent. -/
def Obligations.ErrorsChangeNothing : Prop :=
  ∀ (w : CmdWord) (s t : State) (r : RspWord), transact w s = .next t → t.rsp = some r →
    rspErr r = true →
    (∃ c : Cause, r = errorWord c) ∧ t = { s with rsp := some r } ∧
      ∀ ws : List CmdWord, responsesTo ws t = responsesTo ws s

/-- R95 and R97: the five causes, each under exactly its condition, no other error response, and
nothing recorded but the response. -/
def Obligations.ErrorCauses : Prop :=
  ∀ (w : CmdWord) (s : State), ∃ (t : State) (r : RspWord),
    transact w s = .next t ∧ t.rsp = some r ∧
    (r = 0x10001#17 ↔
      5 ≤ (cmdOp w).toNat ∨ ((cmdOp w = 0#3 ∨ cmdOp w = 1#3) ∧ cmdArg w ≠ 0#16) ∨
        (cmdOp w = 2#3 ∧ 8 ≤ (cmdArg w).toNat)) ∧
    (r = 0x10002#17 ↔ cmdOp w = 2#3 ∧ cmdArg w = 0#16) ∧
    (r = 0x10003#17 ↔ cmdOp w = 3#3 ∧ (cmdArg w).toInt ≠ 1 ∧ (cmdArg w).toInt ≠ 2) ∧
    (r = 0x10004#17 ↔ cmdOp w = 4#3 ∧ s.mode = .unset) ∧
    (r = 0x10005#17 ↔
      cmdOp w = 4#3 ∧ (s.mode = .cheb ∨ s.mode = .bess) ∧ s.order = .unset) ∧
    (rspErr r = true → t = { s with rsp := some r } ∧
      (r = 0x10001#17 ∨ r = 0x10002#17 ∨ r = 0x10003#17 ∨ r = 0x10004#17 ∨ r = 0x10005#17))

/-- R39: a command other than `RUN` that succeeds answers `0x0000`. -/
def Obligations.OnlyRunReturnsData : Prop :=
  ∀ (w : CmdWord) (s t : State) (r : RspWord), cmdOp w ≠ 4#3 → transact w s = .next t →
    t.rsp = some r → rspErr r = false → r = 0x00000#17

/-! ## The whole machine -/

/-- R31, R39, R58, R91: every command word in every state is answered, with exactly one response word.
That it takes nothing from the host's stream but itself is about the model's own field (log
entry 1). -/
def Obligations.EveryCommandIsAnswered : Prop :=
  ∀ (w : CmdWord) (s : State), ∃ (t : State) (r : RspWord),
    transact w s = .next t ∧ t.rsp = some r ∧ t.pending = s.pending

/-- R92: no terminal state: every step of every state answers a next state. That a step takes one entry
of the host's stream, an asserted reset leaving the entries after it, is the model's choice (log
entry 1). -/
def Obligations.NoTerminalState : Prop :=
  ∀ s : State, ∃ t : State, step s = .next t ∧ t.pending = s.pending.tail

/-- A step runs the decoded instruction: R34, R50, R52. The word the host presents is taken from its
stream and decoded; if it is a command, the step is exec of it; if it is illegal, the step answers
`ILLEGAL_COMMAND`; with nothing presented only the response port changes. -/
def Obligations.StepRunsDecoded : Prop :=
  ∀ s : State,
    (∀ (w : CmdWord) (rest : List HostInput), s.pending = .command w :: rest →
      (∀ i : Instr, decode w = .ok i → step s = exec i { s with pending := rest }) ∧
      (∀ e : DecodeError, decode w = .error e →
        step s = .next { s with pending := rest, rsp := some 0x10001#17 })) ∧
    (s.pending = [] → step s = .next { s with rsp := none }) ∧
    (∀ nbits w : Nat, ∀ i : Instr, decodeTableWord nbits w = some i →
      step (s.withFetchWord nbits w) = exec i s)

/-- R34: the engine is a sequential function folded over the command list: stepping through the host's
commands gives their responses in order and the state that the list of transactions gives. -/
def Obligations.StepsFoldOverCommands : Prop :=
  ∀ (ws : List CmdWord) (s : State), s.pending = ws.map .command →
    observe ws.length s = responsesTo ws s ∧
    (responsesTo ws s).length = ws.length ∧
    ∃ t : State, afterSteps ws.length s = some t ∧
      afterCommands ws { s with pending := [] } = some t

/-- R13, R20, R96: nothing but the seven registers persists from one command to the next: two states
with the same registers answer every list of commands alike, whatever the last response was. -/
def Obligations.OnlyRegistersPersist : Prop :=
  ∀ (ws : List CmdWord) (s t : State), s.SameRegisters t → responsesTo ws s = responsesTo ws t

/-- R26 and R63: the old `w[0]` never influences anything the host sees: no response to any later list
of commands depends on it. -/
def Obligations.OldestSlotInvisible : Prop :=
  ∀ (ws : List CmdWord) (s : State) (v : Sample),
    responsesTo ws { s with w0 := v } = responsesTo ws s

/-- The invariant holds at reset. -/
def Obligations.ResetSatisfiesInvariant : Prop := State.reset.Inv

/-- R25 and R95: every step keeps the invariant: `step_counter` in [0, 10], and a presented response is
a success or one of the five causes. -/
def Obligations.StepKeepsInvariant : Prop :=
  ∀ s t : State, s.Inv → step s = .next t → t.Inv

/-! ## The clocked command port -/

/-- R52: an accepted command is answered `LAT` cycles after its acceptance, with the response of its
transaction; until then `cmd_ready = 0` and nothing is presented. `LAT` is the free value
`Config.extraLatency n + 1`: the statement holds whatever it is. -/
def Obligations.PortAnswersAfterLatency : Prop :=
  ∀ (p : Port) (w : CmdWord) (pins : List PinsIn),
    p.out.cmdReady = true → (∀ q ∈ pins, q.rst = false) →
    pins.length = Config.extraLatency p.accepted →
    let p1 := p.clock { rst := false, cmdValid := true, cmd := w }
    (∀ k : Nat, k < pins.length →
      (p1.run (pins.take k)).out = { cmdReady := false, rsp := none }) ∧
    ∃ (t : State) (r : RspWord), transact w p.engine = .next t ∧ t.rsp = some r ∧
      (p1.run pins).engine = t ∧ (p1.run pins).out.rsp = some r

/-- R52: `cmd_ready` returns to 1 no later than the cycle after the response, and a response not
followed by an immediately answered command is presented for one cycle only; an idle edge changes no
register. -/
def Obligations.PortRecovers : Prop :=
  ∀ (p : Port) (q : PinsIn), (∀ w k, p.phase ≠ .busy w k) → q.rst = false →
    p.accepts q = false →
    (p.clock q).out = { cmdReady := true, rsp := none } ∧
    (p.clock q).engine.SameRegisters p.engine

/-- R107: at an edge with `rst = 1` every register becomes zero, a command in flight is abandoned
without a response, no command is accepted, and `cmd_ready = 1` follows. -/
def Obligations.PortReset : Prop :=
  ∀ (p : Port) (q : PinsIn), q.rst = true →
    p.accepts q = false ∧ (p.clock q).out = { cmdReady := true, rsp := none } ∧
    (p.clock q).engine.SameRegisters State.reset ∧
    ∀ t : State, exec .new p.engine = .next t → (p.clock q).engine.SameRegisters t

/-- R34, R52, R114, R115: for every sequence of edges without reset, whatever the latencies are, the
responses presented are those of the accepted commands in order, at most the last accepted command is
still in flight, and the registers are those the answered commands left. -/
def Obligations.PortRefinesTransactions : Prop :=
  ∀ (p : Port) (pins : List PinsIn), p.phase = .ready → (∀ q ∈ pins, q.rst = false) →
    ∃ (done flight : List CmdWord) (t : State),
      p.acceptedWords pins = done ++ flight ∧ flight.length ≤ 1 ∧
      (flight = [] ↔ ∀ w k, (p.run pins).phase ≠ .busy w k) ∧
      (p.responses pins).map some = responsesTo done p.engine ∧
      afterCommands done p.engine = some t ∧ (p.run pins).engine.SameRegisters t
end

