-- ==== Sys2Proof/Laws/Decode.lean ====
section
/-! SUPPORT. The fields of command words and the codes of the enumerations. -/

namespace Sys2Proof

@[simp] theorem FilterMode.ofCode_code (m : FilterMode) : FilterMode.ofCode m.code = m := by
  cases m <;> rfl

@[simp] theorem FilterMode.code_ofCode (c : BitVec 3) : (FilterMode.ofCode c).code = c := by
  revert c; decide

theorem FilterOrder.code_ne_three (o : FilterOrder) : o.code ≠ 3#2 := by
  cases o <;> decide

theorem getLsbD_commandWord (op : BitVec 3) (arg : Sample) (i : Nat) :
    (commandWord op arg).getLsbD i = if i < 16 then arg.getLsbD i else op.getLsbD (i - 16) := by
  have h : (commandWord op arg).getLsbD i = (op ++ arg).getLsbD i := rfl
  rw [h, BitVec.getLsbD_append]

@[simp] theorem cmdOp_commandWord (op : BitVec 3) (arg : Sample) :
    cmdOp (commandWord op arg) = op := by
  apply BitVec.eq_of_getLsbD_eq
  intro i hi
  simp [cmdOp, getLsbD_commandWord, hi]

@[simp] theorem cmdArg_commandWord (op : BitVec 3) (arg : Sample) :
    cmdArg (commandWord op arg) = arg := by
  apply BitVec.eq_of_getLsbD_eq
  intro i hi
  simp [cmdArg, getLsbD_commandWord, hi]

/-- A command word is its opcode and its argument (30_encoding.md R38). -/
@[simp] theorem commandWord_op_arg (w : CmdWord) : commandWord (cmdOp w) (cmdArg w) = w := by
  apply BitVec.eq_of_getLsbD_eq
  intro i hi
  rw [getLsbD_commandWord]
  by_cases h : i < 16
  · simp [h, cmdArg]
  · simp [h, cmdOp, show i - 16 < 3 by omega, show 16 + (i - 16) = i by omega]

/-- A 16-bit argument is its reserved bits and its mode code (30_encoding.md R45). -/
theorem argCode_of_argReserved {a : Sample} (h : argReserved a = 0#13) :
    (argCode a).setWidth 16 = a := by
  apply BitVec.eq_of_getLsbD_eq
  intro i hi
  by_cases h3 : i < 3
  · simp [argCode, h3, hi]
  · have := congrArg (fun v => v.getLsbD (i - 3)) h
    simp [argReserved, show i - 3 < 13 by omega, show 3 + (i - 3) = i by omega] at this
    simp [argCode, h3, this]

@[simp] theorem argCode_setWidth (c : BitVec 3) : argCode (c.setWidth 16) = c := by
  revert c; decide

@[simp] theorem argReserved_setWidth (c : BitVec 3) : argReserved (c.setWidth 16) = 0#13 := by
  revert c; decide

end Sys2Proof
end

