-- ==== Sys2Proof/Laws/Operands.lean ====
section
/-! SUPPORT. What the arithmetic primitives of 00_scope.md R8 compute. -/

namespace Sys2Proof.Machine

theorem sext16_le (v : Sample) : sext16 v ≤ 32767 := by
  have := BitVec.toInt_lt (x := v); simp only [sext16]; omega

theorem le_sext16 (v : Sample) : -32768 ≤ sext16 v := by
  have := BitVec.le_toInt (x := v); simp only [sext16]; omega

@[simp] theorem wrap16_sext16 (v : Sample) : wrap16 (sext16 v) = v := BitVec.ofInt_toInt

/-- The stored value is congruent to the exact one, and `le_sext16`, `sext16_le` put it in range:
`wrap16` is the integer R8 calls unique. -/
theorem sext16_wrap16 (i : Int) : sext16 (wrap16 i) = (i + 32768) % 65536 - 32768 := by
  simp only [sext16, wrap16, BitVec.toInt_ofInt, Int.bmod]; omega

theorem sext16_wrap16_of_range {i : Int} (h : -32768 ≤ i) (h' : i ≤ 32767) :
    sext16 (wrap16 i) = i := by
  rw [sext16_wrap16]; omega

/-- `asr` is the floor of the quotient. -/
theorem asr_spec (i : Int) (n : Nat) :
    asr i n * ((2 ^ n : Nat) : Int) ≤ i ∧ i < (asr i n + 1) * ((2 ^ n : Nat) : Int) := by
  have hp : (0 : Int) < ((2 ^ n : Nat) : Int) := by exact_mod_cast Nat.two_pow_pos n
  exact ⟨Int.ediv_mul_le i hp.ne', Int.lt_ediv_add_one_mul_self i hp⟩

theorem median3_mem (a b c : Int) : median3 a b c = a ∨ median3 a b c = b ∨ median3 a b c = c := by
  simp only [median3]; omega

theorem median3_le {a b c m : Int} (ha : a ≤ m) (hb : b ≤ m) (hc : c ≤ m) : median3 a b c ≤ m := by
  obtain h | h | h := median3_mem a b c <;> omega

theorem le_median3 {a b c m : Int} (ha : m ≤ a) (hb : m ≤ b) (hc : m ≤ c) : m ≤ median3 a b c := by
  obtain h | h | h := median3_mem a b c <;> omega

end Sys2Proof.Machine
end

