-- ==== Sys2Proof/Laws/State.lean ====
section
/-! SUPPORT. One lemma per field per update of the state. -/

namespace Sys2Proof.Machine

variable (s : State)

@[simp] theorem State.shift3_w0 (v : Sample) : (s.shift3 v).w0 = s.w1 := rfl
@[simp] theorem State.shift3_w1 (v : Sample) : (s.shift3 v).w1 = s.w2 := rfl
@[simp] theorem State.shift3_w2 (v : Sample) : (s.shift3 v).w2 = v := rfl
@[simp] theorem State.shift3_helper (v : Sample) : (s.shift3 v).helper = s.helper := rfl
@[simp] theorem State.shift3_stepCounter (v : Sample) : (s.shift3 v).stepCounter = s.stepCounter := rfl
@[simp] theorem State.shift3_mode (v : Sample) : (s.shift3 v).mode = s.mode := rfl
@[simp] theorem State.shift3_order (v : Sample) : (s.shift3 v).order = s.order := rfl
@[simp] theorem State.shift3_rsp (v : Sample) : (s.shift3 v).rsp = s.rsp := rfl
@[simp] theorem State.shift3_pending (v : Sample) : (s.shift3 v).pending = s.pending := rfl

@[simp] theorem State.present_w0 (r : RspWord) : (s.present r).w0 = s.w0 := rfl
@[simp] theorem State.present_w1 (r : RspWord) : (s.present r).w1 = s.w1 := rfl
@[simp] theorem State.present_w2 (r : RspWord) : (s.present r).w2 = s.w2 := rfl
@[simp] theorem State.present_helper (r : RspWord) : (s.present r).helper = s.helper := rfl
@[simp] theorem State.present_stepCounter (r : RspWord) : (s.present r).stepCounter = s.stepCounter := rfl
@[simp] theorem State.present_mode (r : RspWord) : (s.present r).mode = s.mode := rfl
@[simp] theorem State.present_order (r : RspWord) : (s.present r).order = s.order := rfl
@[simp] theorem State.present_rsp (r : RspWord) : (s.present r).rsp = some r := rfl
@[simp] theorem State.present_pending (r : RspWord) : (s.present r).pending = s.pending := rfl

@[simp] theorem State.clear_w0 : (s.clear).w0 = 0#16 := rfl
@[simp] theorem State.clear_w1 : (s.clear).w1 = 0#16 := rfl
@[simp] theorem State.clear_w2 : (s.clear).w2 = 0#16 := rfl
@[simp] theorem State.clear_helper : (s.clear).helper = 0#16 := rfl
@[simp] theorem State.clear_stepCounter : (s.clear).stepCounter = 0#4 := rfl
@[simp] theorem State.clear_mode : (s.clear).mode = .unset := rfl
@[simp] theorem State.clear_order : (s.clear).order = .unset := rfl
@[simp] theorem State.clear_rsp : (s.clear).rsp = s.rsp := rfl
@[simp] theorem State.clear_pending : (s.clear).pending = s.pending := rfl

@[simp] theorem State.pinReset_w0 : (s.pinReset).w0 = 0#16 := rfl
@[simp] theorem State.pinReset_w1 : (s.pinReset).w1 = 0#16 := rfl
@[simp] theorem State.pinReset_w2 : (s.pinReset).w2 = 0#16 := rfl
@[simp] theorem State.pinReset_helper : (s.pinReset).helper = 0#16 := rfl
@[simp] theorem State.pinReset_stepCounter : (s.pinReset).stepCounter = 0#4 := rfl
@[simp] theorem State.pinReset_mode : (s.pinReset).mode = .unset := rfl
@[simp] theorem State.pinReset_order : (s.pinReset).order = .unset := rfl
@[simp] theorem State.pinReset_rsp : (s.pinReset).rsp = none := rfl
@[simp] theorem State.pinReset_pending : (s.pinReset).pending = s.pending := rfl

@[simp] theorem State.idle_w0 : (s.idle).w0 = s.w0 := rfl
@[simp] theorem State.idle_w1 : (s.idle).w1 = s.w1 := rfl
@[simp] theorem State.idle_w2 : (s.idle).w2 = s.w2 := rfl
@[simp] theorem State.idle_helper : (s.idle).helper = s.helper := rfl
@[simp] theorem State.idle_stepCounter : (s.idle).stepCounter = s.stepCounter := rfl
@[simp] theorem State.idle_mode : (s.idle).mode = s.mode := rfl
@[simp] theorem State.idle_order : (s.idle).order = s.order := rfl
@[simp] theorem State.idle_rsp : (s.idle).rsp = none := rfl
@[simp] theorem State.idle_pending : (s.idle).pending = s.pending := rfl

@[simp] theorem State.take_w0 (rest : List HostInput) : (s.take rest).w0 = s.w0 := rfl
@[simp] theorem State.take_w1 (rest : List HostInput) : (s.take rest).w1 = s.w1 := rfl
@[simp] theorem State.take_w2 (rest : List HostInput) : (s.take rest).w2 = s.w2 := rfl
@[simp] theorem State.take_helper (rest : List HostInput) : (s.take rest).helper = s.helper := rfl
@[simp] theorem State.take_stepCounter (rest : List HostInput) : (s.take rest).stepCounter = s.stepCounter := rfl
@[simp] theorem State.take_mode (rest : List HostInput) : (s.take rest).mode = s.mode := rfl
@[simp] theorem State.take_order (rest : List HostInput) : (s.take rest).order = s.order := rfl
@[simp] theorem State.take_rsp (rest : List HostInput) : (s.take rest).rsp = s.rsp := rfl
@[simp] theorem State.take_pending (rest : List HostInput) : (s.take rest).pending = rest := rfl

@[simp] theorem State.offer_w0 (w : CmdWord) : (s.offer w).w0 = s.w0 := rfl
@[simp] theorem State.offer_w1 (w : CmdWord) : (s.offer w).w1 = s.w1 := rfl
@[simp] theorem State.offer_w2 (w : CmdWord) : (s.offer w).w2 = s.w2 := rfl
@[simp] theorem State.offer_helper (w : CmdWord) : (s.offer w).helper = s.helper := rfl
@[simp] theorem State.offer_stepCounter (w : CmdWord) : (s.offer w).stepCounter = s.stepCounter := rfl
@[simp] theorem State.offer_mode (w : CmdWord) : (s.offer w).mode = s.mode := rfl
@[simp] theorem State.offer_order (w : CmdWord) : (s.offer w).order = s.order := rfl
@[simp] theorem State.offer_rsp (w : CmdWord) : (s.offer w).rsp = s.rsp := rfl
@[simp] theorem State.offer_pending (w : CmdWord) : (s.offer w).pending = .command w :: s.pending := rfl

end Sys2Proof.Machine
end

