-- ==== Sys2Proof/Laws/Trackers.lean ====
section
/-! SUPPORT. What the tracker primitives compute, case by case. -/

namespace Sys2Proof.Machine

variable {x h : Int} {c : Nat}

theorem trksCount_of_qualifies (q : x > h + 8 ∨ x < h - 8) : trksCount x h c = c + 1 := if_pos q

theorem trksCount_of_not (q : ¬ (x > h + 8 ∨ x < h - 8)) : trksCount x h c = c := if_neg q

/-- The movement of `RUN.TRKS` in its five cases (45_trackers.md R83). -/
theorem trksMove_cases (x h : Int) (c : Nat) :
    (h + 8 < x ∧ trksMove x h c = h + 8 * (c + 1) + 1) ∨
    (h < x ∧ x ≤ h + 8 ∧ trksMove x h c = h + 1) ∨
    (x = h ∧ trksMove x h c = h) ∨
    (h - 8 ≤ x ∧ x < h ∧ trksMove x h c = h - 1) ∨
    (x < h - 8 ∧ trksMove x h c = h - 8 * (c + 1) - 1) := by
  by_cases q : x > h + 8 ∨ x < h - 8
  · simp only [trksMove, trksCount_of_qualifies q, trkDeadband]; split_ifs <;> push_cast <;> omega
  · simp only [trksMove, trksCount_of_not q, trkDeadband]; split_ifs <;> omega

/-- The movement of `RUN.TRKF` with its cascade written out (45_trackers.md R81). -/
theorem trkfMove_eq (x h : Int) :
    trkfMove x h =
      if x > h then trkfUpStep x (trkfUpStep x (trkfUpStep x (trkfUpStep x h 512) 128) 32) 8 + 1
      else if x < h then
        trkfDownStep x (trkfDownStep x (trkfDownStep x (trkfDownStep x h 512) 128) 32) 8 - 1
      else h := rfl

theorem trksStore_of_le (hc : c ≤ 10) : (trksStore c).toNat = c := by
  simp only [trksStore, ctrMax, show ¬ c > 10 by omega, if_false, BitVec.toNat_ofNat]; omega

theorem trksStore_of_gt (hc : 10 < c) : trksStore c = 0#4 := if_pos hc

end Sys2Proof.Machine
end

