-- ==== Sys2Proof/Laws/Ops.lean ====
section
/-! SUPPORT. What each shared operation answers, said once. -/

namespace Sys2Proof.Machine

variable {s t : State}

theorem respond_eq_next {v : Sample} :
    respond v s = .next t ↔ t = s.present (successWord v) := by
  simp [respond, eq_comm]

theorem raiseError_eq_next {c : Cause} :
    raiseError c s = .next t ↔ t = s.present (errorWord c) := by
  simp [raiseError, eq_comm]

theorem iir1_eq (r : Iir1Row) (x : Sample) (s : State) :
    iir1 r x s = .next ((s.shift3 (wrap16 (iir1Tmp r (sext16 x) (sext16 s.w2)))).present
      (successWord (wrap16 (sext16 s.w2 +
        sext16 (wrap16 (iir1Tmp r (sext16 x) (sext16 s.w2))))))) := rfl

theorem iir2_eq (r : Iir2Row) (x : Sample) (s : State) :
    iir2 r x s =
      .next ((s.shift3 (wrap16 (iir2Tmp r (sext16 x) (sext16 s.w1) (sext16 s.w2)))).present
        (successWord (wrap16 (sext16 s.w1 +
          sext16 (wrap16 (iir2Tmp r (sext16 x) (sext16 s.w1) (sext16 s.w2))) +
          2 * sext16 s.w2)))) := rfl

theorem medianRun_eq (x : Sample) (s : State) :
    medianRun x s = .next ((s.shift3 x).present
      (successWord (wrap16 (median3 (sext16 s.w1) (sext16 s.w2) (sext16 x))))) := rfl

theorem execRunTrkf_eq (x : Sample) (s : State) :
    execRunTrkf x s =
      .next ({ s with helper := wrap16 (trkfMove (sext16 x) (sext16 s.helper)) }.present
        (successWord (wrap16 (trkfMove (sext16 x) (sext16 s.helper))))) := rfl

theorem execRunTrks_eq (x : Sample) (s : State) :
    execRunTrks x s =
      .next ({ s with
          helper := wrap16 (trksMove (sext16 x) (sext16 s.helper) s.stepCounter.toNat)
          stepCounter :=
            trksStore (trksCount (sext16 x) (sext16 s.helper) s.stepCounter.toNat) }.present
        (successWord (wrap16 (trksMove (sext16 x) (sext16 s.helper) s.stepCounter.toNat)))) := rfl

/-- Every counter the "smoother" tracker stores is in range (10_state.md R25). -/
theorem trksStore_le (c : Nat) : (trksStore c).toNat ≤ 10 := by
  by_cases h : c ≤ 10
  · rw [trksStore_of_le h]; exact h
  · rw [trksStore_of_gt (by omega)]; decide

@[simp] theorem rspErr_successWord (v : Sample) : rspErr (successWord v) = false := by
  have h : rspErr (successWord v) = (0#1 ++ v).getLsbD 16 := rfl
  rw [h, BitVec.getLsbD_append]; simp

@[simp] theorem rspErr_errorWord (c : Cause) : rspErr (errorWord c) = true := by
  cases c <;> decide

theorem rspData_errorWord (c : Cause) : rspData (errorWord c) = c.code := by
  cases c <;> decide

end Sys2Proof.Machine
end

