-- ==== Sys2Proof/Laws/PerInstr.lean ====
section
/-! SUPPORT. The family TableRow: the word of every instruction lies in its row of the opcode table. -/

namespace Sys2Proof.Laws.TableRow

/-- The encoded word selects the instruction's row: `W & mask = match` (30_encoding.md R50). -/
def Statement (i : Instr) : Prop := encode i &&& i.tableMask = i.tableMatch

/-- Masking off the argument leaves the opcode. -/
theorem and_opcode_mask (op : BitVec 3) (arg : Sample) :
    commandWord op arg &&& 0x70000#19 = commandWord op 0#16 := by
  have h : (0x70000#19 : CmdWord) = commandWord 7#3 0#16 := by decide
  apply BitVec.eq_of_getLsbD_eq
  intro i hi
  rw [h, BitVec.getLsbD_and, getLsbD_commandWord, getLsbD_commandWord, getLsbD_commandWord]
  by_cases h16 : i < 16
  · simp [h16]
  · obtain h | h | h : i = 16 ∨ i = 17 ∨ i = 18 := by omega
    all_goals subst h; simp

theorem new : Statement .new := by unfold Statement; decide
theorem configure : Statement .configure := by unfold Statement; decide
theorem setFilter (m : FilterMode) : Statement (.setFilter m) := by
  unfold Statement; cases m <;> decide
theorem setOrder (n : Sample) : Statement (.setOrder n) := and_opcode_mask 3#3 n
theorem run (x : Sample) : Statement (.run x) := and_opcode_mask 4#3 x
theorem runCheb1 (x : Sample) : Statement (.runCheb1 x) := and_opcode_mask 4#3 x
theorem runCheb2 (x : Sample) : Statement (.runCheb2 x) := and_opcode_mask 4#3 x
theorem runBess1 (x : Sample) : Statement (.runBess1 x) := and_opcode_mask 4#3 x
theorem runBess2 (x : Sample) : Statement (.runBess2 x) := and_opcode_mask 4#3 x
theorem runMedf (x : Sample) : Statement (.runMedf x) := and_opcode_mask 4#3 x
theorem runMedr (x : Sample) : Statement (.runMedr x) := and_opcode_mask 4#3 x
theorem runMeds (x : Sample) : Statement (.runMeds x) := and_opcode_mask 4#3 x
theorem runTrkf (x : Sample) : Statement (.runTrkf x) := and_opcode_mask 4#3 x
theorem runTrks (x : Sample) : Statement (.runTrks x) := and_opcode_mask 4#3 x

end Sys2Proof.Laws.TableRow
end

