-- ==== Sys2Proof/Laws/Transact.lean ====
section
/-! SUPPORT. Everything a transaction can do, said once: by command word, by instruction, and by kind of
run operation. -/

namespace Sys2Proof.Machine

theorem op_cases (op : BitVec 3) :
    op = 0#3 ∨ op = 1#3 ∨ op = 2#3 ∨ op = 3#3 ∨ op = 4#3 ∨ 5 ≤ op.toNat := by
  revert op; decide

/-- The decoder on a word given by its fields (30_encoding.md R50). -/
theorem decode_commandWord (op : BitVec 3) (arg : Sample) :
    decode (commandWord op arg) =
      if 5 ≤ op.toNat then .error .reservedOpcode
      else if op = 0#3 ∧ arg ≠ 0#16 then .error .reservedArgument
      else if op = 1#3 ∧ arg ≠ 0#16 then .error .reservedArgument
      else if op = 2#3 ∧ argReserved arg ≠ 0#13 then .error .reservedArgument
      else if op = 0#3 then .ok .new
      else if op = 1#3 then .ok .configure
      else if op = 2#3 then .ok (.setFilter (FilterMode.ofCode (argCode arg)))
      else if op = 3#3 then .ok (.setOrder arg)
      else .ok (.run arg) := by
  simp only [decode, cmdOp_commandWord, cmdArg_commandWord]

/-- The six things a command word can be. -/
theorem transact_cases (op : BitVec 3) (arg : Sample) (s : State) :
    (op = 0#3 ∧ arg = 0#16 ∧ transact (commandWord op arg) s = exec .new s) ∨
    (op = 1#3 ∧ arg = 0#16 ∧ transact (commandWord op arg) s = exec .configure s) ∨
    (op = 2#3 ∧ argReserved arg = 0#13 ∧
      transact (commandWord op arg) s = exec (.setFilter (FilterMode.ofCode (argCode arg))) s) ∨
    (op = 3#3 ∧ transact (commandWord op arg) s = exec (.setOrder arg) s) ∨
    (op = 4#3 ∧ transact (commandWord op arg) s = exec (.run arg) s) ∨
    ((5 ≤ op.toNat ∨ ((op = 0#3 ∨ op = 1#3) ∧ arg ≠ 0#16) ∨
        (op = 2#3 ∧ argReserved arg ≠ 0#13)) ∧
      transact (commandWord op arg) s = raiseError .illegalCommand s) := by
  obtain rfl | rfl | rfl | rfl | rfl | h5 := op_cases op
  · by_cases ha : arg = 0#16 <;> simp [transact, decode_commandWord, ha]
  · by_cases ha : arg = 0#16 <;> simp [transact, decode_commandWord, ha]
  · by_cases ha : argReserved arg = 0#13 <;> simp [transact, decode_commandWord, ha]
  · simp [transact, decode_commandWord]
  · simp [transact, decode_commandWord]
  · simp [transact, decode_commandWord, h5]

/-- `RUN` is refused, or it is the operation that the state selects (46_run_dispatch.md R88). -/
theorem execRun_cases (x : Sample) (s : State) :
    (selected s.mode s.order x = none ∧
      execRun x s = raiseError (if s.mode = .unset then .modeUnset else .orderUnset) s) ∨
    ∃ op, selected s.mode s.order x = some op ∧ (windowOp op = true ∨ trackerOp op = true) ∧
      execRun x s = exec op s := by
  obtain ⟨w0, w1, w2, h, c, m, o, r, p⟩ := s
  cases m <;> cases o <;> simp [selected, exec, execRun, windowOp, trackerOp]

/-- A window operation shifts one value in and answers one value (41_window_shifter.md R61). -/
theorem windowOp_answers {i : Instr} (hi : windowOp i = true) (s : State) :
    ∃ v y : Sample, exec i s = .next ((s.shift3 v).present (successWord y)) := by
  cases i <;> simp [windowOp] at hi
  · exact ⟨_, _, iir1_eq cheb1Row _ s⟩
  · exact ⟨_, _, iir2_eq cheb2Row _ s⟩
  · exact ⟨_, _, iir1_eq bess1Row _ s⟩
  · exact ⟨_, _, iir2_eq bess2Row _ s⟩
  all_goals exact ⟨_, _, medianRun_eq _ s⟩

/-- A tracker operation writes the estimate, which it answers, and perhaps the counter
(45_trackers.md R80). -/
theorem trackerOp_answers {i : Instr} (hi : trackerOp i = true) (s : State) :
    ∃ (h : Sample) (c : BitVec 4),
      exec i s = .next ({ s with helper := h, stepCounter := c }.present (successWord h)) ∧
      ((∃ k, c = trksStore k) ∨ c = s.stepCounter) := by
  cases i <;> simp [trackerOp] at hi
  · exact ⟨_, s.stepCounter, execRunTrkf_eq _ s, .inr rfl⟩
  · exact ⟨_, _, execRunTrks_eq _ s, .inl ⟨_, rfl⟩⟩

end Sys2Proof.Machine
end

