-- ==== Sys2Proof/Tests/Slice0.lean ====
section
/-! SUPPORT. The model's own tests. Expected values are from spec/95_test_vectors.md and the worked
examples of the rules; each test names its source. The last part shows, for every statement with
hypotheses, concrete values that meet them. -/

namespace Sys2Proof.Machine.Tests

/-- A state with the given registers and empty ports. -/
def st (w : Int × Int × Int) (h : Int) (c : Nat) (m : FilterMode) (o : FilterOrder) : State where
  w0 := wrap16 w.1
  w1 := wrap16 w.2.1
  w2 := wrap16 w.2.2
  helper := wrap16 h
  stepCounter := BitVec.ofNat 4 c
  mode := m
  order := o
  rsp := none
  pending := []

/-- What is compared of a next state: its registers as numbers, and its response. -/
structure Seen where
  window  : Int × Int × Int
  helper  : Int
  counter : Nat
  mode    : FilterMode
  order   : FilterOrder
  rsp     : Option RspWord
  deriving DecidableEq, Repr

/-- The registers a result leaves and its response, for comparison. -/
def seen : Result → Option Seen
  | .next t =>
    some ⟨(sext16 t.w0, sext16 t.w1, sext16 t.w2), sext16 t.helper, t.stepCounter.toNat, t.mode,
      t.order, t.rsp⟩
  | .fault _ => none
  | .refused _ => none

/-! ## Well-formedness: the one check, with the terms it refuses -/

theorem test_wellFormed_commands :
    Instr.wellFormed .new = true ∧ Instr.wellFormed .configure = true ∧
    Instr.wellFormed (.setFilter .unset) = true ∧ Instr.wellFormed (.setOrder 3#16) = true ∧
    Instr.wellFormed (.run 0#16) = true := by decide

theorem test_illFormed_run_operations :
    Instr.wellFormed (.runCheb1 0#16) = false ∧ Instr.wellFormed (.runCheb2 0#16) = false ∧
    Instr.wellFormed (.runBess1 0#16) = false ∧ Instr.wellFormed (.runBess2 0#16) = false ∧
    Instr.wellFormed (.runMedf 0#16) = false ∧ Instr.wellFormed (.runMedr 0#16) = false ∧
    Instr.wellFormed (.runMeds 0#16) = false ∧ Instr.wellFormed (.runTrkf 0#16) = false ∧
    Instr.wellFormed (.runTrks 0#16) = false := by decide

/-! ## Decoding: words written bit by bit from 30_encoding.md R38, R40 (95_test_vectors.md V-DEC) -/

theorem test_decode_new : decode 0b0000000000000000000#19 = .ok .new := by decide
theorem test_decode_configure : decode 0b0010000000000000000#19 = .ok .configure := by decide
theorem test_decode_set_filter_trks :
    decode 0b0100000000000000111#19 = .ok (.setFilter .trks) := by decide
theorem test_decode_set_filter_cheb :
    decode 0b0100000000000000001#19 = .ok (.setFilter .cheb) := by decide
theorem test_decode_set_order_minus_one :
    decode 0b0111111111111111111#19 = .ok (.setOrder (wrap16 (-1))) := by decide
theorem test_decode_run_minus_100 :
    decode 0b1001111111110011100#19 = .ok (.run (wrap16 (-100))) := by decide
theorem test_decode_reserved_opcode :
    decode 0b1010000000000000000#19 = .error .reservedOpcode ∧
    decode 0b1111111111111111111#19 = .error .reservedOpcode := by decide
theorem test_decode_reserved_argument :
    decode 0b0000000000000000001#19 = .error .reservedArgument ∧
    decode 0b0010000000000000001#19 = .error .reservedArgument ∧
    decode 0b0100000000000001000#19 = .error .reservedArgument := by decide
/-- The word of every run operation is `RUN`'s (R40). -/
theorem test_decode_run_operation_words :
    decode (encode (.runCheb1 7#16)) = .ok (.run 7#16) ∧
    decode (encode (.runCheb2 7#16)) = .ok (.run 7#16) ∧
    decode (encode (.runBess1 7#16)) = .ok (.run 7#16) ∧
    decode (encode (.runBess2 7#16)) = .ok (.run 7#16) ∧
    decode (encode (.runMedf 7#16)) = .ok (.run 7#16) ∧
    decode (encode (.runMedr 7#16)) = .ok (.run 7#16) ∧
    decode (encode (.runMeds 7#16)) = .ok (.run 7#16) ∧
    decode (encode (.runTrkf 7#16)) = .ok (.run 7#16) ∧
    decode (encode (.runTrks 7#16)) = .ok (.run 7#16) := by decide
/-- A row of the table gives 24 bits; the bits above bit 18 are no part of the word (R38). -/
theorem test_decode_table_words :
    decodeTableWord 24 0x20005 = some (.setFilter .meds) ∧
    decodeTableWord 24 0x40064 = some (.run 100#16) ∧
    decodeTableWord 24 0x50000 = none ∧ decodeTableWord 24 0xF80005 = none := by decide

/-! ## Configuration (40_configuration.md examples, V-CFG, V-ERR) -/

theorem test_new : seen (exec .new (st (5, 1, 9) 40 3 .trks .two)) =
    some ⟨(0, 0, 0), 0, 0, .unset, .unset, some 0x00000#17⟩ := by decide
theorem test_configure : seen (exec .configure (st (1, 2, 3) 4 5 .trks .two)) =
    some ⟨(1, 2, 3), 4, 5, .cheb, .one, some 0x00000#17⟩ := by decide
theorem test_set_filter : seen (exec (.setFilter .medf) (st (1, 2, 3) 4 5 .trks .two)) =
    some ⟨(1, 2, 3), 4, 5, .medf, .two, some 0x00000#17⟩ := by decide
theorem test_set_filter_unset : seen (exec (.setFilter .unset) (st (1, 2, 3) 4 5 .trks .two)) =
    some ⟨(1, 2, 3), 4, 5, .trks, .two, some 0x10002#17⟩ := by decide
theorem test_set_order : seen (exec (.setOrder 1#16) (st (1, 2, 3) 4 5 .trks .two)) =
    some ⟨(1, 2, 3), 4, 5, .trks, .one, some 0x00000#17⟩ := by decide
theorem test_set_order_minus_one :
    seen (exec (.setOrder (wrap16 (-1))) (st (1, 2, 3) 4 5 .trks .two)) =
    some ⟨(1, 2, 3), 4, 5, .trks, .two, some 0x10003#17⟩ := by decide

/-! ## IIR (V-IIR-5, V-IIR-6) -/

theorem test_cheb1_floor : seen (exec (.runCheb1 (wrap16 (-3))) (st (7, -5, 3) 0 0 .cheb .one)) =
    some ⟨(-5, 3, -1), 0, 0, .cheb, .one, some 0x00002#17⟩ := by decide
theorem test_cheb1_output_wraps :
    seen (exec (.runCheb1 (wrap16 32767)) (st (0, -32768, 32767) 0 0 .cheb .one)) =
    some ⟨(-32768, 32767, 19998), 0, 0, .cheb, .one, some 0x0CE1D#17⟩ := by decide
theorem test_cheb2_floor : seen (exec (.runCheb2 (wrap16 (-3))) (st (7, -5, 3) 0 0 .cheb .two)) =
    some ⟨(-5, 3, 6), 0, 0, .cheb, .two, some 0x00007#17⟩ := by decide
theorem test_cheb2_store_truncates :
    seen (exec (.runCheb2 (wrap16 32767)) (st (0, -32768, 32767) 0 0 .cheb .two)) =
    some ⟨(-32768, 32767, -6737), 0, 0, .cheb, .two, some 0x065AD#17⟩ := by decide
theorem test_bess1_floor : seen (exec (.runBess1 (wrap16 (-3))) (st (7, -5, 3) 0 0 .bess .one)) =
    some ⟨(-5, 3, 1), 0, 0, .bess, .one, some 0x00004#17⟩ := by decide
theorem test_bess1_extreme :
    seen (exec (.runBess1 (wrap16 (-32768))) (st (0, 32767, -32768) 0 0 .bess .one)) =
    some ⟨(32767, -32768, -24732), 0, 0, .bess, .one, some 0x01F64#17⟩ := by decide
theorem test_bess2_operands : seen (exec (.runBess2 0#16) (st (1000, 2000, 3000) 0 0 .bess .two)) =
    some ⟨(2000, 3000, 2155), 0, 0, .bess, .two, some 0x027AB#17⟩ := by decide
theorem test_bess2_store_truncates :
    seen (exec (.runBess2 (wrap16 (-32768))) (st (0, 32767, -32768) 0 0 .bess .two)) =
    some ⟨(32767, -32768, 25865), 0, 0, .bess, .two, some 0x0E508#17⟩ := by decide

/-! ## Median (44_median.md R76, R77, R78, V-MED) -/

theorem test_medf : seen (exec (.runMedf 9#16) (st (0, 5, 1) 7 3 .medf .unset)) =
    some ⟨(5, 1, 9), 7, 3, .medf, .unset, some 0x00005#17⟩ := by decide
theorem test_medr_rejects_impulse : seen (exec (.runMedr 1000#16) (st (1, 2, 3) 0 0 .medr .one)) =
    some ⟨(2, 3, 1000), 0, 0, .medr, .one, some 0x00003#17⟩ := by decide
theorem test_meds_signed :
    seen (exec (.runMeds (wrap16 (-9))) (st (0, -5, -1) 0 0 .meds .unset)) =
    some ⟨(-5, -1, -9), 0, 0, .meds, .unset, some 0x0FFFB#17⟩ := by decide
theorem test_median3 :
    median3 1 2 3 = 2 ∧ median3 1 3 2 = 2 ∧ median3 2 1 3 = 2 ∧ median3 2 3 1 = 2 ∧
    median3 3 1 2 = 2 ∧ median3 3 2 1 = 2 ∧ median3 1 1 2 = 1 ∧ median3 2 2 1 = 2 ∧
    median3 (-32768) 32767 0 = 0 := by decide

/-! ## Trackers (V-TRKF, V-TRKS) -/

theorem test_trkf_thresholds :
    trkfMove 8 0 = 1 ∧ trkfMove 9 0 = 9 ∧ trkfMove 32 0 = 9 ∧ trkfMove 33 0 = 33 ∧
    trkfMove 128 0 = 41 ∧ trkfMove 129 0 = 129 ∧ trkfMove 512 0 = 169 ∧ trkfMove 513 0 = 513 ∧
    trkfMove 600 0 = 553 ∧ trkfMove 680 0 = 673 ∧ trkfMove 682 0 = 681 ∧
    trkfMove (-600) 0 = -553 ∧ trkfMove 92 100 = 99 ∧ trkfMove 5 5 = 5 := by decide
theorem test_trkf_range_end :
    seen (exec (.runTrkf (wrap16 32767)) (st (1, 2, 3) (-32768) 4 .trkf .unset)) =
    some ⟨(1, 2, 3), -32087, 4, .trkf, .unset, some 0x082A9#17⟩ := by decide
theorem test_trks_counter_wraps :
    seen (exec (.runTrks 9#16) (st (1, 2, 3) 0 10 .trks .unset)) =
    some ⟨(1, 2, 3), 89, 0, .trks, .unset, some 0x00059#17⟩ := by decide
theorem test_trks_helper_wraps :
    seen (exec (.runTrks (wrap16 (-32768))) (st (1, 2, 3) (-32750) 9 .trks .unset)) =
    some ⟨(1, 2, 3), 32705, 10, .trks, .unset, some 0x07FC1#17⟩ := by decide

/-! ## RUN, errors, the step (V-ERR, P3) -/

theorem test_run_unset : seen (exec (.run 7#16) (st (1, 2, 3) 0 0 .unset .one)) =
    some ⟨(1, 2, 3), 0, 0, .unset, .one, some 0x10004#17⟩ := by decide
theorem test_run_order_unset : seen (exec (.run 7#16) (st (1, 2, 3) 0 0 .bess .unset)) =
    some ⟨(1, 2, 3), 0, 0, .bess, .unset, some 0x10005#17⟩ := by decide
theorem test_step_first_after_reset : seen (step (State.reset.withFetchWord 24 0x40007)) =
    some ⟨(0, 0, 0), 0, 0, .unset, .unset, some 0x10004#17⟩ := by decide
theorem test_step_illegal_before_bad_mode : seen (step (State.reset.withFetchWord 24 0x20008)) =
    some ⟨(0, 0, 0), 0, 0, .unset, .unset, some 0x10001#17⟩ := by decide
/-- V-ERR-5: a median needs no order. -/
theorem test_step_run_meds :
    seen (step ((st (0, 0, 0) 0 0 .meds .unset).withFetchWord 24 0x40007)) =
    some ⟨(0, 0, 7), 0, 0, .meds, .unset, some 0x00000#17⟩ := by decide
/-- Program P3, lines 12 to 15. -/
theorem test_program_bess2 :
    responsesTo [0x30002#19, 0x40064#19, 0x40064#19, 0x40064#19] (st (0, 0, 0) 0 0 .bess .unset) =
    [some 0x00000#17, some 0x00009#17, some 0x00023#17, some 0x00041#17] := by decide

/-! ## Text (R48) -/

theorem test_text :
    commandText (.setFilter .meds) = "set_filter meds" ∧
    responseText 0x10003#17 = some "err BAD_ORDER" ∧ responseText 0x10006#17 = none := by decide

/-! ## Witnesses: concrete values that meet the hypotheses of each statement -/

/-- A configured state used by the witnesses. -/
def s0 : State := st (1, 2, 3) 40 3 .medf .one

theorem witness_DecodeEncode : Instr.wellFormed (.setOrder 3#16) = true := by decide
theorem witness_EncodeDecode : decode 0x20007#19 = .ok (.setFilter .trks) := by decide
/-- Each clause of DecoderMatchMask, at the ends of its range, and a word no row matches. -/
theorem witness_DecoderMatchMask :
    0x00000#19 &&& 0x7FFFF#19 = 0x00000#19 ∧ 0x10000#19 &&& 0x7FFFF#19 = 0x10000#19 ∧
    0x20000#19 &&& 0x7FFF8#19 = 0x20000#19 ∧ 0x20007#19 &&& 0x7FFF8#19 = 0x20000#19 ∧
    0x30000#19 &&& 0x70000#19 = 0x30000#19 ∧ 0x3FFFF#19 &&& 0x70000#19 = 0x30000#19 ∧
    0x40000#19 &&& 0x70000#19 = 0x40000#19 ∧ 0x4FFFF#19 &&& 0x70000#19 = 0x40000#19 ∧
    0x20008#19 &&& 0x7FFFF#19 ≠ 0x00000#19 ∧ 0x20008#19 &&& 0x7FFFF#19 ≠ 0x10000#19 ∧
    0x20008#19 &&& 0x7FFF8#19 ≠ 0x20000#19 ∧ 0x20008#19 &&& 0x70000#19 ≠ 0x30000#19 ∧
    0x20008#19 &&& 0x70000#19 ≠ 0x40000#19 := by decide
theorem witness_AssemblerWords : (-32768 : Int) ≤ -32768 ∧ (32767 : Int) ≤ 32767 := by decide
theorem witness_ResponsesHaveText :
    transact 0x40005#19 s0 = .next ((s0.shift3 5#16).present 0x00003#17) ∧
    rspErr 0x00003#17 = false ∧
    transact 0x30003#19 s0 = .next (s0.present 0x10003#17) ∧ rspErr 0x10003#17 = true :=
  ⟨rfl, by decide, rfl, by decide⟩
theorem witness_ResetPin :
    ({ s0 with pending := [.reset, .command 5#19] } : State).pending =
      .reset :: [.command 5#19] ∧
    exec .new s0 = .next (s0.clear.present 0#17) := ⟨rfl, rfl⟩
theorem witness_NewResult_ConfigureResult : (1#16 : Sample) ≠ 0#16 ∧ 0xFFFF#16 ≠ 0#16 := by decide
/-- The clauses of SetFilterResult at the ends of their ranges: 0, 1, 7, 8 and 65535. -/
theorem witness_SetFilterResult :
    FilterMode.cheb ≠ .unset ∧ (0#16 : Sample).toNat = 0 ∧ 1 ≤ (1#16 : Sample).toNat ∧
    (7#16 : Sample).toNat ≤ 7 ∧ 8 ≤ (8#16 : Sample).toNat ∧ 8 ≤ (0xFFFF#16 : Sample).toNat := by
  decide
/-- The clauses of SetOrderResult: 1, 2, and their neighbours 0, 3 and -1. -/
theorem witness_SetOrderResult :
    (1#16 : Sample).toInt = 1 ∧ (2#16 : Sample).toInt = 2 ∧
    ((0#16 : Sample).toInt ≠ 1 ∧ (0#16 : Sample).toInt ≠ 2) ∧
    ((3#16 : Sample).toInt ≠ 1 ∧ (3#16 : Sample).toInt ≠ 2) ∧
    ((0xFFFF#16 : Sample).toInt ≠ 1 ∧ (0xFFFF#16 : Sample).toInt ≠ 2) := by decide
theorem witness_DataSurvivesConfiguration :
    cmdOp 0x30002#19 ≠ 0#3 ∧ cmdOp 0x30002#19 ≠ 4#3 ∧
    transact 0x30002#19 s0 = .next { s0 with order := .two, rsp := some 0#17 } :=
  ⟨by decide, by decide, rfl⟩
theorem witness_ConfigurationIdempotent :
    configOp (.setOrder 2#16) = true ∧
    exec (.setOrder 2#16) s0 = .next { s0 with order := .two, rsp := some 0#17 } :=
  ⟨by decide, rfl⟩
theorem witness_ConfigureIsTwoCommands :
    exec (.setFilter .cheb) s0 = .next { s0 with mode := .cheb, rsp := some 0#17 } := rfl
theorem witness_SettersCommute :
    FilterMode.bess ≠ .unset ∧ ((1#16 : Sample).toInt = 1 ∨ (1#16 : Sample).toInt = 2) ∧
    ((2#16 : Sample).toInt = 1 ∨ (2#16 : Sample).toInt = 2) := by decide
/-- The states that select the four IIR operations. -/
theorem witness_RunIirResults :
    ((st (0, 0, 0) 0 0 .cheb .one).mode = .cheb ∧ (st (0, 0, 0) 0 0 .cheb .one).order = .one) ∧
    ((st (0, 0, 0) 0 0 .cheb .two).mode = .cheb ∧ (st (0, 0, 0) 0 0 .cheb .two).order = .two) ∧
    ((st (0, 0, 0) 0 0 .bess .one).mode = .bess ∧ (st (0, 0, 0) 0 0 .bess .one).order = .one) ∧
    ((st (0, 0, 0) 0 0 .bess .two).mode = .bess ∧ (st (0, 0, 0) 0 0 .bess .two).order = .two) := by
  decide
/-- The three modes of MedianResult, MedianWindow and MedianStartUp. -/
theorem witness_MedianMode :
    MedianMode s0.mode ∧ MedianMode .medf ∧ MedianMode .medr ∧ MedianMode .meds := by decide
theorem witness_RunTrackerResults :
    (st (0, 0, 0) 0 0 .trkf .unset).mode = .trkf ∧
    (st (0, 0, 0) 0 0 .trks .unset).mode = .trks := by decide
/-- TrkfNoOvershoot: the sample above, below and at the estimate. -/
theorem witness_TrkfNoOvershoot :
    exec (.runTrkf 49#16) s0 = .next ({ s0 with helper := 49#16 }.present 49#17) ∧
    s0.helper.toInt < (49#16 : Sample).toInt ∧ (39#16 : Sample).toInt < s0.helper.toInt ∧
    40#16 = s0.helper := ⟨rfl, by decide, by decide, by decide⟩
/-- TrkfMovement: the gaps at the ends of every clause, from the estimate 0. -/
theorem witness_TrkfMovement :
    exec (.runTrkf 41#16) (st (0, 0, 0) 0 0 .trkf .unset) =
      .next ((st (0, 0, 0) 41 0 .trkf .unset).present 41#17) ∧
    ([0, 1, 8, 9, 32, 33, 40, 41, 681, 32767].map fun n : Nat =>
      ((wrap16 n).toInt - (st (0, 0, 0) 0 0 .trkf .unset).helper.toInt).natAbs) =
      [0, 1, 8, 9, 32, 33, 40, 41, 681, 32767] := ⟨rfl, by decide⟩
theorem witness_TrkfConverges :
    (st (0, 0, 0) 0 0 .trkf .unset).mode = .trkf ∧
    ((1000#16 : Sample).toInt - (st (0, 0, 0) 0 0 .trkf .unset).helper.toInt).natAbs ≤ 1000 := by
  decide
/-- TrksCounter and TrksMovement: a counter of 10, gaps of 8 and 9, and both sides. -/
theorem witness_TrksCounter_TrksMovement :
    (st (0, 0, 0) 0 10 .trks .unset).stepCounter.toNat ≤ 10 ∧
    exec (.runTrks 9#16) (st (0, 0, 0) 0 10 .trks .unset) =
      .next ((st (0, 0, 0) 89 0 .trks .unset).present 89#17) ∧
    8 < ((9#16 : Sample).toInt - (st (0, 0, 0) 0 10 .trks .unset).helper.toInt).natAbs ∧
    ((8#16 : Sample).toInt - (st (0, 0, 0) 0 10 .trks .unset).helper.toInt).natAbs ≤ 8 ∧
    exec (.runTrks 8#16) (st (0, 0, 0) 0 10 .trks .unset) =
      .next ((st (0, 0, 0) 1 10 .trks .unset).present 1#17) ∧
    (st (0, 0, 0) 0 10 .trks .unset).helper.toInt < (9#16 : Sample).toInt ∧
    (wrap16 (-9)).toInt < (st (0, 0, 0) 0 10 .trks .unset).helper.toInt ∧
    (-32679 ≤ (wrap16 (-32679)).toInt ∧ (wrap16 32678).toInt ≤ 32678) :=
  ⟨by decide, rfl, by decide, by decide, rfl, by decide, by decide, by decide⟩
theorem witness_TrksConvergesInDeadband :
    (st (0, 0, 0) 0 10 .trks .unset).mode = .trks ∧
    (st (0, 0, 0) 0 10 .trks .unset).stepCounter.toNat ≤ 10 ∧
    ((8#16 : Sample).toInt - (st (0, 0, 0) 0 10 .trks .unset).helper.toInt).natAbs ≤ 8 := by
  decide
/-- RunDispatch and RunRefused: a selected operation, and the refused configurations. -/
theorem witness_RunDispatch_RunRefused :
    selected s0.mode s0.order 5#16 = some (.runMedf 5#16) ∧
    selected .bess .two 5#16 = some (.runBess2 5#16) ∧
    selected State.reset.mode State.reset.order 5#16 = none ∧ State.reset.mode = .unset ∧
    selected (st (0, 0, 0) 0 0 .bess .unset).mode (st (0, 0, 0) 0 0 .bess .unset).order 5#16 = none ∧
    ((st (0, 0, 0) 0 0 .bess .unset).mode = .cheb ∨ (st (0, 0, 0) 0 0 .bess .unset).mode = .bess) ∧
    (st (0, 0, 0) 0 0 .bess .unset).order = .unset := by decide
theorem witness_ModeAndOrderWriters :
    configOp (.run 5#16) = false ∧ configOp (.runTrks 5#16) = false ∧
    exec (.run 5#16) s0 = .next ((s0.shift3 5#16).present 0x00003#17) ∧
    transact 0x20006#19 s0 = .next { s0 with mode := .trkf, rsp := some 0#17 } ∧
    FilterMode.trkf ≠ s0.mode ∧
    transact 0x30002#19 s0 = .next { s0 with order := .two, rsp := some 0#17 } ∧
    FilterOrder.two ≠ s0.order := ⟨by decide, by decide, rfl, rfl, by decide, rfl, by decide⟩
theorem witness_OnlyNewUnsets :
    transact 0x00000#19 s0 = .next (s0.clear.present 0#17) ∧ s0.mode ≠ .unset ∧
    s0.order ≠ .unset ∧ (s0.clear.present 0#17).mode = .unset ∧
    (s0.clear.present 0#17).order = .unset := ⟨rfl, by decide, by decide, rfl, rfl⟩
theorem witness_OrderIgnored :
    s0.mode ≠ .cheb ∧ s0.mode ≠ .bess ∧
    exec (.run 5#16) s0 = .next ((s0.shift3 5#16).present 0x00003#17) :=
  ⟨by decide, by decide, rfl⟩
theorem witness_WindowOperationFrame :
    windowOp (.runMeds 5#16) = true ∧
    exec (.runMeds 5#16) s0 = .next ((s0.shift3 5#16).present 0x00003#17) ∧
    windowOp (.runCheb1 0#16) = true ∧
    exec (.runCheb1 0#16) (st (0, 0, 0) 0 0 .cheb .one) =
      .next ((st (0, 0, 0) 0 0 .cheb .one).present 0#17) := ⟨by decide, rfl, by decide, rfl⟩
theorem witness_TrackerFrame :
    trackerOp (.runTrkf 40#16) = true ∧ exec (.runTrkf 40#16) s0 = .next (s0.present 40#17) ∧
    trackerOp (.runTrks 40#16) = true ∧ exec (.runTrks 40#16) s0 = .next (s0.present 40#17) :=
  ⟨by decide, rfl, by decide, rfl⟩
/-- RunFrame: a window mode, a tracker mode, and a refused run. -/
theorem witness_RunFrame :
    exec (.run 5#16) s0 = .next ((s0.shift3 5#16).present 0x00003#17) ∧ s0.mode ≠ .trkf ∧
    s0.mode ≠ .trks ∧ selected s0.mode s0.order 5#16 ≠ none ∧
    exec (.run 0#16) (st (1, 2, 3) 0 3 .trkf .one) =
      .next ((st (1, 2, 3) 0 3 .trkf .one).present 0#17) ∧
    (st (1, 2, 3) 0 3 .trkf .one).mode = .trkf ∧
    exec (.run 0#16) State.reset = .next (State.reset.present 0x10004#17) :=
  ⟨rfl, by decide, by decide, by decide, rfl, rfl, rfl⟩
theorem witness_ErrorsChangeNothing :
    transact 0x70000#19 s0 = .next (s0.present 0x10001#17) ∧
    (s0.present 0x10001#17).rsp = some 0x10001#17 ∧ rspErr 0x10001#17 = true :=
  ⟨rfl, rfl, by decide⟩
/-- ErrorCauses: each cause at a boundary of its condition, and success beside it. -/
theorem witness_ErrorCauses :
    seen (transact 0x50000#19 s0) = seen (.next (s0.present 0x10001#17)) ∧
    seen (transact 0x00001#19 s0) = seen (.next (s0.present 0x10001#17)) ∧
    seen (transact 0x20008#19 s0) = seen (.next (s0.present 0x10001#17)) ∧
    seen (transact 0x20000#19 s0) = seen (.next (s0.present 0x10002#17)) ∧
    seen (transact 0x30000#19 s0) = seen (.next (s0.present 0x10003#17)) ∧
    seen (transact 0x30003#19 s0) = seen (.next (s0.present 0x10003#17)) ∧
    seen (transact 0x40000#19 State.reset) = seen (.next (State.reset.present 0x10004#17)) ∧
    seen (transact 0x40000#19 (st (0, 0, 0) 0 0 .cheb .unset)) =
      seen (.next ((st (0, 0, 0) 0 0 .cheb .unset).present 0x10005#17)) := by decide
theorem witness_OnlyRunReturnsData :
    cmdOp 0x10000#19 ≠ 4#3 ∧
    transact 0x10000#19 s0 = .next { s0 with mode := .cheb, rsp := some 0#17 } ∧
    rspErr 0#17 = false := ⟨by decide, rfl, by decide⟩
/-- StepRunsDecoded: a command, an illegal word, nothing presented, and a table word. -/
theorem witness_StepRunsDecoded :
    (s0.offer 0x40005#19).pending = .command 0x40005#19 :: [] ∧
    decode 0x40005#19 = .ok (.run 5#16) ∧ decode 0x60000#19 = .error .reservedOpcode ∧
    s0.pending = [] ∧ decodeTableWord 24 0x40005 = some (.run 5#16) := by decide
theorem witness_StepsFoldOverCommands :
    ({ s0 with pending := [0x00000#19, 0x40007#19].map .command } : State).pending =
      [0x00000#19, 0x40007#19].map .command := rfl
theorem witness_OnlyRegistersPersist : s0.SameRegisters (s0.present 0x10001#17) :=
  ⟨rfl, rfl, rfl, rfl, rfl, rfl, rfl⟩
/-- StepKeepsInvariant: a state at the top of the counter's range, about to run `RUN.TRKS`. -/
theorem witness_StepKeepsInvariant :
    ((st (0, 0, 0) 0 10 .trks .unset).offer 0x40009#19).Inv ∧
    step ((st (0, 0, 0) 0 10 .trks .unset).offer 0x40009#19) =
      .next ((st (0, 0, 0) 89 0 .trks .unset).present 89#17) :=
  ⟨⟨by decide, fun _ h => nomatch h⟩, rfl⟩

/-- A port that is ready, with the engine `s0`. -/
def p0 : Port := { engine := s0, phase := .ready, accepted := 0 }

/-- An edge at which the host presents nothing. -/
def quiet : PinsIn := { rst := false, cmdValid := false, cmd := 0#19 }

theorem witness_PortAnswersAfterLatency :
    p0.out.cmdReady = true ∧
    (∀ q ∈ List.replicate (Config.extraLatency p0.accepted) quiet, q.rst = false) ∧
    (List.replicate (Config.extraLatency p0.accepted) quiet).length =
      Config.extraLatency p0.accepted :=
  ⟨rfl, fun q h => by rw [List.eq_of_mem_replicate h]; rfl, List.length_replicate⟩
theorem witness_PortRecovers :
    (∀ w k, ({ p0 with phase := .responding false } : Port).phase ≠ .busy w k) ∧
    quiet.rst = false ∧ ({ p0 with phase := .responding false } : Port).accepts quiet = false :=
  ⟨fun _ _ h => (nomatch h), rfl, rfl⟩
theorem witness_PortReset :
    ({ quiet with rst := true } : PinsIn).rst = true ∧
    exec .new p0.engine = .next (s0.clear.present 0#17) := ⟨rfl, rfl⟩
theorem witness_PortRefinesTransactions :
    p0.phase = .ready ∧
    ∀ q ∈ [{ quiet with cmdValid := true, cmd := 0x40005#19 }, quiet, quiet], q.rst = false :=
  ⟨rfl, by decide⟩

end Sys2Proof.Machine.Tests
end

section
/-! PROOFS. O36: who writes `mode` and `order` (10_state.md R23, 46_run_dispatch.md R90). -/

namespace Sys2Proof.Machine

variable {s t : State}

/-- `t` has the configuration of `s` (10_state.md R17, R18). -/
def State.SameConfig (s t : State) : Prop := t.mode = s.mode ∧ t.order = s.order

theorem sameConfig_of_raiseError {c : Cause} (h : raiseError c s = .next t) : s.SameConfig t := by
  rw [raiseError_eq_next] at h
  subst h
  exact ⟨rfl, rfl⟩

theorem sameConfig_of_windowOp {i : Instr} (hi : windowOp i = true) (h : exec i s = .next t) :
    s.SameConfig t := by
  obtain ⟨v, y, heq⟩ := windowOp_answers hi s
  cases heq.symm.trans h
  exact ⟨rfl, rfl⟩

theorem sameConfig_of_trackerOp {i : Instr} (hi : trackerOp i = true) (h : exec i s = .next t) :
    s.SameConfig t := by
  obtain ⟨e, c, heq, -⟩ := trackerOp_answers hi s
  cases heq.symm.trans h
  exact ⟨rfl, rfl⟩

theorem sameConfig_of_runOp {i : Instr} (hi : windowOp i = true ∨ trackerOp i = true)
    (h : exec i s = .next t) : s.SameConfig t :=
  hi.elim (sameConfig_of_windowOp · h) (sameConfig_of_trackerOp · h)

/-- `RUN` writes no configuration: it is refused, or it is a run operation. -/
theorem sameConfig_of_run {x : Sample} (h : exec (.run x) s = .next t) : s.SameConfig t := by
  change execRun x s = .next t at h
  obtain ⟨-, heq⟩ | ⟨i, -, hi, heq⟩ := execRun_cases x s
  · exact sameConfig_of_raiseError (heq.symm.trans h)
  · exact sameConfig_of_runOp hi (heq.symm.trans h)

/-- What is no configuration command is `RUN` or a run operation. -/
theorem run_or_runOp_of_not_configOp {i : Instr} (hi : configOp i = false) :
    (∃ x, i = .run x) ∨ windowOp i = true ∨ trackerOp i = true := by
  cases i <;> simp [configOp, windowOp, trackerOp] at hi ⊢

theorem sameConfig_of_not_configOp {i : Instr} (hi : configOp i = false)
    (h : exec i s = .next t) : s.SameConfig t := by
  obtain ⟨x, rfl⟩ | hop := run_or_runOp_of_not_configOp hi
  · exact sameConfig_of_run h
  · exact sameConfig_of_runOp hop h

/-- `SET_FILTER` writes `mode` alone, accepted or refused (40_configuration.md R55). -/
theorem setFilter_answers (m : FilterMode) (s : State) :
    ∃ (m' : FilterMode) (r : RspWord),
      exec (.setFilter m) s = .next ({ s with mode := m' }.present r) := by
  by_cases hm : m = .unset
  · exact ⟨s.mode, errorWord .badMode, if_pos hm⟩
  · exact ⟨m, successWord 0#16, if_neg hm⟩

/-- `SET_ORDER` writes `order` alone, accepted or refused (40_configuration.md R56). -/
theorem setOrder_answers (n : Sample) (s : State) :
    ∃ (o : FilterOrder) (r : RspWord),
      exec (.setOrder n) s = .next ({ s with order := o }.present r) := by
  by_cases h1 : sext16 n = 1
  · exact ⟨.one, successWord 0#16, if_pos h1⟩
  by_cases h2 : sext16 n = 2
  · exact ⟨.two, successWord 0#16, (if_neg h1).trans (if_pos h2)⟩
  · exact ⟨s.order, errorWord .badOrder, (if_neg h1).trans (if_neg h2)⟩

theorem order_of_setFilter {m : FilterMode} (h : exec (.setFilter m) s = .next t) :
    t.order = s.order := by
  obtain ⟨m', r, heq⟩ := setFilter_answers m s
  cases heq.symm.trans h
  rfl

theorem mode_of_setOrder {n : Sample} (h : exec (.setOrder n) s = .next t) :
    t.mode = s.mode := by
  obtain ⟨o, r, heq⟩ := setOrder_answers n s
  cases heq.symm.trans h
  rfl

/-- With its reserved bits zero, a word of opcode 2 is the `SET_FILTER` of its mode code
(30_encoding.md R45). -/
theorem commandWord_eq_encode_setFilter {arg : Sample} (h : argReserved arg = 0#13) :
    commandWord 2#3 arg = encode (.setFilter (FilterMode.ofCode (argCode arg))) := by
  simp only [encode, Instr.opcode, Instr.argument, FilterMode.code_ofCode, argCode_of_argReserved h]

/-- Which configuration registers a transaction may write, by its command word. -/
theorem transact_config_cases {w : CmdWord} (h : transact w s = .next t) :
    w = encode .new ∨ w = encode .configure ∨
    ((∃ m, w = encode (.setFilter m)) ∧ t.order = s.order) ∨
    ((∃ n, w = encode (.setOrder n)) ∧ t.mode = s.mode) ∨
    s.SameConfig t := by
  rw [← commandWord_op_arg w] at h ⊢
  obtain ⟨hop, harg, -⟩ | ⟨hop, harg, -⟩ | ⟨hop, hres, heq⟩ | ⟨hop, heq⟩ | ⟨-, heq⟩ | ⟨-, heq⟩ :=
    transact_cases (cmdOp w) (cmdArg w) s
  · exact .inl (by rw [hop, harg]; rfl)
  · exact .inr (.inl (by rw [hop, harg]; rfl))
  · exact .inr (.inr (.inl
      ⟨⟨_, hop ▸ commandWord_eq_encode_setFilter hres⟩, order_of_setFilter (heq.symm.trans h)⟩))
  · exact .inr (.inr (.inr (.inl
      ⟨⟨cmdArg w, by rw [hop]; rfl⟩, mode_of_setOrder (heq.symm.trans h)⟩)))
  · exact .inr (.inr (.inr (.inr (sameConfig_of_run (heq.symm.trans h)))))
  · exact .inr (.inr (.inr (.inr (sameConfig_of_raiseError (heq.symm.trans h)))))

/-- Settles O36: a run operation answers from a state of the same configuration, and each
configuration word is read off the opcode. -/
theorem modeAndOrderWriters : Obligations.ModeAndOrderWriters := by
  unfold Obligations.ModeAndOrderWriters
  refine ⟨fun i s t hi h => sameConfig_of_not_configOp hi h, fun w s t h => ?_⟩
  obtain hnew | hconf | ⟨hfilter, horder⟩ | ⟨hsetOrder, hmode⟩ | ⟨hmode, horder⟩ :=
    transact_config_cases h
  · exact ⟨fun _ => .inl hnew, fun _ => .inl hnew⟩
  · exact ⟨fun _ => .inr (.inl hconf), fun _ => .inr (.inl hconf)⟩
  · exact ⟨fun _ => .inr (.inr hfilter), fun hne => absurd horder hne⟩
  · exact ⟨fun hne => absurd hmode hne, fun _ => .inr (.inr hsetOrder)⟩
  · exact ⟨fun hne => absurd hmode hne, fun hne => absurd horder hne⟩

end Sys2Proof.Machine
end

section
/-! PROOFS. O9, O11, O12: what `NEW`, `SET_FILTER` and `SET_ORDER` write and answer
(40_configuration.md R53, R55, R56). -/

namespace Sys2Proof

/-- The reserved bits of `SET_FILTER` are zero exactly when the argument is a mode code
(30_encoding.md R45). -/
theorem argReserved_eq_zero_iff {arg : Sample} : argReserved arg = 0#13 ↔ arg.toNat < 8 := by
  rw [← BitVec.toNat_inj, argReserved, BitVec.extractLsb'_toNat]
  have := arg.isLt
  simp only [Nat.shiftRight_eq_div_pow, BitVec.toNat_ofNat]
  omega

theorem toNat_argCode (arg : Sample) : (argCode arg).toNat = arg.toNat % 8 :=
  BitVec.extractLsb'_toNat 0 3 arg

theorem FilterMode.toNat_code_eq_zero_iff {m : FilterMode} : m.code.toNat = 0 ↔ m = .unset := by
  cases m <;> decide

end Sys2Proof

namespace Sys2Proof.Machine

/-! The response words of the configuration commands (30_encoding.md R39, 60_exceptions.md R95). -/

theorem respond_zero (s : State) : respond 0#16 s = .next { s with rsp := some 0x00000#17 } := rfl

theorem raiseError_illegalCommand (s : State) :
    raiseError .illegalCommand s = .next { s with rsp := some 0x10001#17 } := rfl

theorem raiseError_badMode (s : State) :
    raiseError .badMode s = .next { s with rsp := some 0x10002#17 } := rfl

theorem raiseError_badOrder (s : State) :
    raiseError .badOrder s = .next { s with rsp := some 0x10003#17 } := rfl

/-! Which meaning a configuration word has (30_encoding.md R50). -/

/-- `NEW` and `CONFIGURE` take no argument (30_encoding.md R45). -/
theorem transact_of_arg_ne_zero {op : BitVec 3} {arg : Sample} (hop : op = 0#3 ∨ op = 1#3)
    (harg : arg ≠ 0#16) (s : State) :
    transact (commandWord op arg) s = raiseError .illegalCommand s := by
  obtain rfl | rfl := hop
  · simp [transact, decode_commandWord, harg]
  · simp [transact, decode_commandWord, harg]

theorem transact_setFilter_of_ge {arg : Sample} (h : 8 ≤ arg.toNat) (s : State) :
    transact (commandWord 2#3 arg) s = raiseError .illegalCommand s := by
  have hres : argReserved arg ≠ 0#13 := fun h0 => h.not_gt (argReserved_eq_zero_iff.mp h0)
  simp [transact, decode_commandWord, hres]

/-- Below 8, the argument of `SET_FILTER` is the code of the mode it names (30_encoding.md R41). -/
theorem transact_setFilter_of_lt {arg : Sample} (h : arg.toNat < 8) (s : State) :
    ∃ m : FilterMode, m.code.toNat = arg.toNat ∧
      transact (commandWord 2#3 arg) s = exec (.setFilter m) s := by
  refine ⟨FilterMode.ofCode (argCode arg), ?_, ?_⟩
  · rw [FilterMode.code_ofCode, toNat_argCode, Nat.mod_eq_of_lt h]
  · rw [commandWord_eq_encode_setFilter (argReserved_eq_zero_iff.mpr h)]
    simp [transact, encode, decode_commandWord, Instr.opcode, Instr.argument]

theorem transact_setOrder (n : Sample) (s : State) :
    transact (commandWord 3#3 n) s = exec (.setOrder n) s := by
  simp [transact, decode_commandWord]

/-! What the setters answer, case by case (40_configuration.md R55, R56). -/

theorem exec_setFilter (m : FilterMode) (s : State) :
    exec (.setFilter m) s =
      if m = .unset then raiseError .badMode s else respond 0#16 { s with mode := m } := rfl

theorem exec_setFilter_unset (s : State) :
    exec (.setFilter .unset) s = .next { s with rsp := some 0x10002#17 } := by
  rw [exec_setFilter, if_pos rfl, raiseError_badMode]

theorem exec_setFilter_of_ne_unset {m : FilterMode} (hm : m ≠ .unset) (s : State) :
    exec (.setFilter m) s = .next { s with mode := m, rsp := some 0x00000#17 } := by
  rw [exec_setFilter, if_neg hm, respond_zero]

theorem exec_setOrder (n : Sample) (s : State) :
    exec (.setOrder n) s =
      if n.toInt = 1 then respond 0#16 { s with order := .one }
      else if n.toInt = 2 then respond 0#16 { s with order := .two }
      else raiseError .badOrder s := rfl

theorem exec_setOrder_of_eq_one {n : Sample} (h : n.toInt = 1) (s : State) :
    exec (.setOrder n) s = .next { s with order := .one, rsp := some 0x00000#17 } := by
  rw [exec_setOrder, if_pos h, respond_zero]

theorem exec_setOrder_of_eq_two {n : Sample} (h : n.toInt = 2) (s : State) :
    exec (.setOrder n) s = .next { s with order := .two, rsp := some 0x00000#17 } := by
  rw [exec_setOrder, if_neg (by omega), if_pos h, respond_zero]

theorem exec_setOrder_of_ne {n : Sample} (h1 : n.toInt ≠ 1) (h2 : n.toInt ≠ 2) (s : State) :
    exec (.setOrder n) s = .next { s with rsp := some 0x10003#17 } := by
  rw [exec_setOrder, if_neg h1, if_neg h2, raiseError_badOrder]

/-- Settles O9: `NEW` answers from the cleared state, and a non-zero argument is reserved. -/
theorem newResult : Obligations.NewResult := by
  unfold Obligations.NewResult
  refine fun s => ⟨respond_zero s.clear, rfl, fun arg harg => ?_⟩
  rw [transact_of_arg_ne_zero (.inl rfl) harg, raiseError_illegalCommand]

/-- Settles O11: an argument of 8 or more has reserved bits set; below 8 it is the code of one mode,
which is `UNSET` for 0 alone. -/
theorem setFilterResult : Obligations.SetFilterResult := by
  unfold Obligations.SetFilterResult
  refine fun s => ⟨fun m hm => exec_setFilter_of_ne_unset hm s, exec_setFilter_unset s,
    fun arg => ⟨fun h8 => ?_, fun h0 => ?_, fun h1 h7 => ?_⟩⟩
  · rw [transact_setFilter_of_ge h8, raiseError_illegalCommand]
  · obtain ⟨m, hcode, heq⟩ := transact_setFilter_of_lt (arg := arg) (by omega) s
    obtain rfl := FilterMode.toNat_code_eq_zero_iff.mp (hcode.trans h0)
    rw [heq, exec_setFilter_unset]
  · obtain ⟨m, hcode, heq⟩ := transact_setFilter_of_lt (arg := arg) (by omega) s
    have hm : m ≠ .unset := fun hu => by
      have := FilterMode.toNat_code_eq_zero_iff.mpr hu
      omega
    exact ⟨m, hcode, heq.trans (exec_setFilter_of_ne_unset hm s)⟩

/-- Settles O12: the decoder passes every argument on, and `SET_ORDER` answers by its signed value. -/
theorem setOrderResult : Obligations.SetOrderResult := by
  unfold Obligations.SetOrderResult
  exact fun s n => ⟨transact_setOrder n s, fun h => exec_setOrder_of_eq_one h s,
    fun h => exec_setOrder_of_eq_two h s, fun h1 h2 => exec_setOrder_of_ne h1 h2 s⟩

end Sys2Proof.Machine
end

section
/-! PROOFS. O23: what the median operations, and `RUN` in the median modes, answer (44_median.md R118,
R76 to R78). -/

namespace Sys2Proof.Machine

/-- `median3` is the middle value that 00_scope.md R8 describes. -/
theorem middleOf_median3 (a b c : Int) : MiddleOf (median3 a b c) a b c := by
  obtain hab | hba := le_total a b
  · rw [median3, min_eq_left hab, max_eq_right hab]; omega
  · rw [median3, min_eq_right hba, max_eq_left hba]; omega

/-- The median of three samples is one of them, so answering it as a sample loses nothing. -/
theorem sext16_wrap16_median3 (a b c : Sample) :
    sext16 (wrap16 (median3 (sext16 a) (sext16 b) (sext16 c))) =
      median3 (sext16 a) (sext16 b) (sext16 c) :=
  sext16_wrap16_of_range (le_median3 (le_sext16 a) (le_sext16 b) (le_sext16 c))
    (median3_le (sext16_le a) (sext16_le b) (sext16_le c))

/-- A success response is its data with the `err` bit zero above it (30_encoding.md R39). -/
theorem successWord_eq_setWidth (v : Sample) : successWord v = v.setWidth 17 :=
  (BitVec.setWidth_eq_append (by decide)).symm

/-- `MEDIAN_RUN` shifts the sample in and answers the middle of the window it leaves (R118). -/
theorem medianRun_answers (x : Sample) (s : State) :
    ∃ m : Sample, MiddleOf m.toInt s.w1.toInt s.w2.toInt x.toInt ∧
      medianRun x s = .next ((s.shift3 x).present (m.setWidth 17)) := by
  refine ⟨wrap16 (median3 (sext16 s.w1) (sext16 s.w2) (sext16 x)), ?_, ?_⟩
  · change MiddleOf (sext16 (wrap16 _)) (sext16 s.w1) (sext16 s.w2) (sext16 x)
    rw [sext16_wrap16_median3]
    exact middleOf_median3 _ _ _
  · rw [medianRun_eq, successWord_eq_setWidth]

theorem transact_run (x : Sample) (s : State) :
    transact (commandWord 4#3 x) s = exec (.run x) s := by
  simp [transact, decode_commandWord]

/-- In the three median modes `RUN` is `MEDIAN_RUN`, whatever the order is (46_run_dispatch.md R88). -/
theorem exec_run_of_medianMode {s : State} (hmode : MedianMode s.mode) (x : Sample) :
    exec (.run x) s = medianRun x s := by
  change execRun x s = medianRun x s
  unfold execRun
  obtain h | h | h := hmode
  all_goals rw [h]; rfl

/-- Settles O23: the three operations are `MEDIAN_RUN`, and `RUN` dispatches to it. -/
theorem medianResult : Obligations.MedianResult := by
  unfold Obligations.MedianResult
  intro s x
  obtain ⟨m, hmiddle, hrun⟩ := medianRun_answers x s
  refine ⟨m, hmiddle, hrun, hrun, hrun, fun hmode => ?_⟩
  rw [transact_run, exec_run_of_medianMode hmode]
  exact ⟨hrun, hrun⟩

end Sys2Proof.Machine
end

section
/-! PROOFS. O34: `RUN` runs the operation that the state selects, or is refused (46_run_dispatch.md R88,
R93). -/

namespace Sys2Proof.Machine

variable {s : State} {x : Sample} {op : Instr}

/-- A selected operation is one of the nine run operations, and `RUN` is that operation. -/
theorem exec_run_of_selected_eq_some (hop : selected s.mode s.order x = some op) :
    (windowOp op = true ∨ trackerOp op = true) ∧ exec (.run x) s = exec op s := by
  change _ ∧ execRun x s = exec op s
  obtain ⟨hnone, -⟩ | ⟨op', hop', hkind, heq⟩ := execRun_cases x s
  · cases hnone.symm.trans hop
  · cases hop'.symm.trans hop
    exact ⟨hkind, heq⟩

/-- With nothing selected, `RUN` is refused: `MODE_UNSET` is checked before `ORDER_UNSET` (R88). -/
theorem exec_run_of_selected_eq_none (hnone : selected s.mode s.order x = none) :
    exec (.run x) s = raiseError (if s.mode = .unset then .modeUnset else .orderUnset) s := by
  change execRun x s = _
  obtain ⟨-, heq⟩ | ⟨op, hop, -, -⟩ := execRun_cases x s
  · exact heq
  · cases hnone.symm.trans hop

/-- Every run operation completes with a success response (R91). -/
theorem runOp_answers_success (hkind : windowOp op = true ∨ trackerOp op = true) (s : State) :
    ∃ (t : State) (v : Sample), exec op s = .next t ∧ t.rsp = some (successWord v) := by
  obtain hwin | htrk := hkind
  · obtain ⟨v, y, heq⟩ := windowOp_answers hwin s
    exact ⟨_, y, heq, rfl⟩
  · obtain ⟨h, c, heq, -⟩ := trackerOp_answers htrk s
    exact ⟨_, h, heq, rfl⟩

/-- The two causes with which `RUN` is refused, as response words (60_exceptions.md R95). -/
theorem errorWord_of_runRefused (m : FilterMode) :
    errorWord (if m = .unset then .modeUnset else .orderUnset) =
      if m = .unset then 0x10004#17 else 0x10005#17 := by
  cases m <;> rfl

/-- Settles O34: a selected operation is a run operation, which answers with success; with none
selected, `RUN` raises the cause of the register that is unset. -/
theorem runDispatch : Obligations.RunDispatch := by
  unfold Obligations.RunDispatch
  refine fun s x => ⟨transact_run x s, fun op hop => ?_, fun hnone => ?_⟩
  · obtain ⟨hkind, heq⟩ := exec_run_of_selected_eq_some hop
    obtain ⟨t, v, hnext, hrsp⟩ := runOp_answers_success hkind s
    exact ⟨t, successWord v, heq.trans hnext, hnext, hrsp, rspErr_successWord v⟩
  · rw [exec_run_of_selected_eq_none hnone, raiseError, State.present, errorWord_of_runRefused]

end Sys2Proof.Machine
end

section
/-! PROOFS. O42, O43: the causes of `ConfigurationError` and what an error response leaves
(60_exceptions.md R95 to R97). -/

namespace Sys2Proof.Machine

variable {w : CmdWord} {s t : State} {c : Cause} {r : RspWord}

/-- The condition of each cause (60_exceptions.md R95). -/
def Raises (w : CmdWord) (s : State) : Cause → Prop
  | .illegalCommand =>
    5 ≤ (cmdOp w).toNat ∨ ((cmdOp w = 0#3 ∨ cmdOp w = 1#3) ∧ cmdArg w ≠ 0#16) ∨
      (cmdOp w = 2#3 ∧ 8 ≤ (cmdArg w).toNat)
  | .badMode => cmdOp w = 2#3 ∧ cmdArg w = 0#16
  | .badOrder => cmdOp w = 3#3 ∧ (cmdArg w).toInt ≠ 1 ∧ (cmdArg w).toInt ≠ 2
  | .modeUnset => cmdOp w = 4#3 ∧ s.mode = .unset
  | .orderUnset => cmdOp w = 4#3 ∧ (s.mode = .cheb ∨ s.mode = .bess) ∧ s.order = .unset

/-! The response words tell the causes apart. -/

theorem causeOfCode_rspData_errorWord (c : Cause) :
    causeOfCode (rspData (errorWord c)) = some c := by
  rw [rspData_errorWord]
  cases c <;> rfl

theorem errorWord_inj {c d : Cause} (h : errorWord c = errorWord d) : c = d :=
  Option.some.inj <|
    (causeOfCode_rspData_errorWord c).symm.trans (h ▸ causeOfCode_rspData_errorWord d)

theorem errorWord_cases (c : Cause) :
    errorWord c = 0x10001#17 ∨ errorWord c = 0x10002#17 ∨ errorWord c = 0x10003#17 ∨
      errorWord c = 0x10004#17 ∨ errorWord c = 0x10005#17 := by
  cases c <;> decide

/-! Under its condition, a cause is raised. -/

theorem argReserved_ne_zero_iff {arg : Sample} : argReserved arg ≠ 0#13 ↔ 8 ≤ arg.toNat :=
  (not_congr argReserved_eq_zero_iff).trans not_lt

theorem transact_of_reservedOpcode {op : BitVec 3} (h : 5 ≤ op.toNat) (arg : Sample) (s : State) :
    transact (commandWord op arg) s = raiseError .illegalCommand s := by
  simp [transact, decode_commandWord, h]

/-- Nothing is selected exactly when a register that `RUN` needs is unset (46_run_dispatch.md R88). -/
theorem selected_eq_none_iff {m : FilterMode} {o : FilterOrder} {x : Sample} :
    selected m o x = none ↔ m = .unset ∨ (m = .cheb ∨ m = .bess) ∧ o = .unset := by
  cases m <;> cases o <;> simp [selected]

theorem transact_of_raises (h : Raises w s c) : transact w s = raiseError c s := by
  rw [← commandWord_op_arg w]
  cases c with
  | illegalCommand =>
    obtain h5 | ⟨hop, harg⟩ | ⟨hop, harg⟩ := h
    · exact transact_of_reservedOpcode h5 _ s
    · exact transact_of_arg_ne_zero hop harg s
    · rw [hop, transact_setFilter_of_ge harg]
  | badMode =>
    obtain ⟨hop, harg⟩ := h
    rw [hop, harg]
    rfl
  | badOrder =>
    obtain ⟨hop, h1, h2⟩ := h
    rw [hop, transact_setOrder, exec_setOrder, if_neg h1, if_neg h2]
  | modeUnset =>
    obtain ⟨hop, hmode⟩ := h
    rw [hop, transact_run, exec_run_of_selected_eq_none (selected_eq_none_iff.mpr (.inl hmode)),
      if_pos hmode]
  | orderUnset =>
    obtain ⟨hop, hmode, horder⟩ := h
    have hne : s.mode ≠ .unset := by
      obtain hm | hm := hmode <;> simp [hm]
    rw [hop, transact_run,
      exec_run_of_selected_eq_none (selected_eq_none_iff.mpr (.inr ⟨hmode, horder⟩)), if_neg hne]

/-! Without a condition, a command succeeds. -/

/-- The command completes with a success response (30_encoding.md R39). -/
def Succeeds (w : CmdWord) (s : State) : Prop :=
  ∃ (t : State) (v : Sample), transact w s = .next t ∧ t.rsp = some (successWord v)

theorem raises_or_succeeds_of_setFilter (hop : cmdOp w = 2#3) (hlt : (cmdArg w).toNat < 8) :
    Raises w s .badMode ∨ Succeeds w s := by
  obtain ⟨m, hcode, heq⟩ := transact_setFilter_of_lt hlt s
  rw [← hop, commandWord_op_arg] at heq
  by_cases hm : m = .unset
  · have harg : (cmdArg w).toNat = 0 := hcode ▸ FilterMode.toNat_code_eq_zero_iff.mpr hm
    exact .inl ⟨hop, BitVec.eq_of_toNat_eq harg⟩
  · exact .inr ⟨_, 0#16, heq.trans (exec_setFilter_of_ne_unset hm s), rfl⟩

theorem raises_or_succeeds_of_setOrder (hop : cmdOp w = 3#3)
    (heq : transact w s = exec (.setOrder (cmdArg w)) s) :
    Raises w s .badOrder ∨ Succeeds w s := by
  by_cases h1 : (cmdArg w).toInt = 1
  · exact .inr ⟨_, 0#16, heq.trans (exec_setOrder_of_eq_one h1 s), rfl⟩
  by_cases h2 : (cmdArg w).toInt = 2
  · exact .inr ⟨_, 0#16, heq.trans (exec_setOrder_of_eq_two h2 s), rfl⟩
  · exact .inl ⟨hop, h1, h2⟩

theorem raises_or_succeeds_of_run (hop : cmdOp w = 4#3)
    (heq : transact w s = exec (.run (cmdArg w)) s) :
    Raises w s .modeUnset ∨ Raises w s .orderUnset ∨ Succeeds w s := by
  cases hsel : selected s.mode s.order (cmdArg w) with
  | none =>
    obtain hmode | hiir := selected_eq_none_iff.mp hsel
    · exact .inl ⟨hop, hmode⟩
    · exact .inr (.inl ⟨hop, hiir⟩)
  | some op =>
    obtain ⟨hkind, hrun⟩ := exec_run_of_selected_eq_some hsel
    obtain ⟨t, v, hnext, hrsp⟩ := runOp_answers_success hkind s
    exact .inr (.inr ⟨t, v, heq.trans (hrun.trans hnext), hrsp⟩)

theorem raises_or_succeeds (w : CmdWord) (s : State) : (∃ c, Raises w s c) ∨ Succeeds w s := by
  have hcases := transact_cases (cmdOp w) (cmdArg w) s
  rw [commandWord_op_arg] at hcases
  obtain ⟨-, -, heq⟩ | ⟨-, -, heq⟩ | ⟨hop, hres, -⟩ | ⟨hop, heq⟩ | ⟨hop, heq⟩ | ⟨hill, -⟩ := hcases
  · exact .inr ⟨_, 0#16, heq, rfl⟩
  · exact .inr ⟨_, 0#16, heq, rfl⟩
  · exact (raises_or_succeeds_of_setFilter hop (argReserved_eq_zero_iff.mp hres)).imp_left (⟨_, ·⟩)
  · exact (raises_or_succeeds_of_setOrder hop heq).imp_left (⟨_, ·⟩)
  · obtain hmode | horder | hok := raises_or_succeeds_of_run (s := s) hop heq
    · exact .inl ⟨_, hmode⟩
    · exact .inl ⟨_, horder⟩
    · exact .inr hok
  · rw [argReserved_ne_zero_iff] at hill
    exact .inl ⟨.illegalCommand, hill⟩

/-- An error response is the exception of one cause, under its condition. -/
theorem raises_of_rspErr (h : transact w s = .next t) (hr : t.rsp = some r)
    (herr : rspErr r = true) : ∃ c, Raises w s c ∧ r = errorWord c ∧ t = s.present r := by
  obtain ⟨c, hc⟩ | ⟨t', v, heq, hrsp⟩ := raises_or_succeeds w s
  · obtain rfl := raiseError_eq_next.mp ((transact_of_raises hc).symm.trans h)
    obtain rfl := Option.some.inj hr
    exact ⟨c, hc, rfl, rfl⟩
  · cases heq.symm.trans h
    obtain rfl := Option.some.inj (hrsp.symm.trans hr)
    rw [rspErr_successWord] at herr
    cases herr

/-- Each cause is answered under exactly its condition. -/
theorem rsp_eq_errorWord_iff (h : transact w s = .next t) (hr : t.rsp = some r) :
    r = errorWord c ↔ Raises w s c := by
  constructor
  · intro hrc
    obtain ⟨d, hd, hrd, -⟩ := raises_of_rspErr h hr (hrc ▸ rspErr_errorWord c)
    exact errorWord_inj (hrc.symm.trans hrd) ▸ hd
  · intro hc
    obtain rfl := raiseError_eq_next.mp ((transact_of_raises hc).symm.trans h)
    exact (Option.some.inj hr).symm

/-- Every command is answered, with an error (60_exceptions.md R96) or with success
(30_encoding.md R39). -/
theorem transact_answers (w : CmdWord) (s : State) :
    ∃ (t : State) (r : RspWord), transact w s = .next t ∧ t.rsp = some r := by
  obtain ⟨c, hc⟩ | ⟨t, v, heq, hrsp⟩ := raises_or_succeeds w s
  · exact ⟨_, errorWord c, transact_of_raises hc, rfl⟩
  · exact ⟨t, successWord v, heq, hrsp⟩

/-! The response port is written by every command and read by none. -/

theorem exec_present (i : Instr) (s : State) (r : RspWord) : exec i (s.present r) = exec i s := by
  cases i <;> rfl

theorem transact_present (w : CmdWord) (s : State) (r : RspWord) :
    transact w (s.present r) = transact w s := by
  unfold transact
  cases decode w with
  | error e => rfl
  | ok i => exact exec_present i s r

theorem responsesTo_present (ws : List CmdWord) (s : State) (r : RspWord) :
    responsesTo ws (s.present r) = responsesTo ws s := by
  cases ws with
  | nil => rfl
  | cons w ws => rw [responsesTo, responsesTo, transact_present]

/-- Settles O42: an error response is all that its command wrote, and the next command writes over
it unread. -/
theorem errorsChangeNothing : Obligations.ErrorsChangeNothing := by
  unfold Obligations.ErrorsChangeNothing
  intro w s t r h hr herr
  obtain ⟨c, -, hrc, rfl⟩ := raises_of_rspErr h hr herr
  exact ⟨⟨c, hrc⟩, rfl, fun ws => responsesTo_present ws s r⟩

/-- Settles O43: under the condition of a cause it is raised, and a command under none of the five
conditions succeeds. -/
theorem errorCauses : Obligations.ErrorCauses := by
  unfold Obligations.ErrorCauses
  intro w s
  obtain ⟨t, r, h, hr⟩ := transact_answers w s
  have hiff (c : Cause) : r = errorWord c ↔ Raises w s c := rsp_eq_errorWord_iff h hr
  refine ⟨t, r, h, hr, hiff .illegalCommand, hiff .badMode, hiff .badOrder, hiff .modeUnset,
    hiff .orderUnset, fun herr => ?_⟩
  obtain ⟨c, -, hrc, ht⟩ := raises_of_rspErr h hr herr
  exact ⟨ht, hrc ▸ errorWord_cases c⟩

end Sys2Proof.Machine
end

section
/-! PROOFS. O7: what reset leaves (70_reset_and_hazards.md R108). -/

namespace Sys2Proof.Machine

/-- Settles O7: the reset state is a literal, and `UNSET` is the mode and the order of code 0. -/
theorem resetState : Obligations.ResetState := by
  unfold Obligations.ResetState
  exact ⟨rfl, rfl, rfl, rfl, rfl, rfl, rfl, rfl, rfl⟩

end Sys2Proof.Machine
end

section
/-! PROOFS. O48, O49, O50: what the host sees does not depend on the ports or on the oldest window
slot, and stepping through the host's stream folds `transact` over it (20_memory.md R34, 10_state.md
R13, R26). -/

namespace Sys2Proof.Machine

variable {s t : State} {i : Instr} {w : CmdWord}

/-- `s` with another oldest slot and another stream of the host: what no instruction reads. -/
def State.hide (s : State) (v : Sample) (p : List HostInput) : State :=
  { s with w0 := v, pending := p }

/-- From the hidden state, `f` answers the same next state, with the hidden stream kept and some
oldest slot; with the true oldest slot before, that is the true one after. -/
def HidesTo (v : Sample) (p : List HostInput) (f : State → Result) (s : State) : Prop :=
  ∃ (t : State) (v' : Sample), f s = .next t ∧ f (s.hide v p) = .next (t.hide v' p) ∧
    (v = s.w0 → v' = t.w0)

theorem hidesTo_raiseError (v : Sample) (p : List HostInput) (c : Cause) (s : State) :
    HidesTo v p (raiseError c) s := ⟨_, v, rfl, rfl, id⟩

theorem hidesTo_setFilter (v : Sample) (p : List HostInput) (m : FilterMode) (s : State) :
    HidesTo v p (exec (.setFilter m)) s := by
  by_cases hm : m = .unset
  · subst hm; exact ⟨_, v, rfl, rfl, id⟩
  · exact ⟨_, v, exec_setFilter_of_ne_unset hm s, exec_setFilter_of_ne_unset hm _, id⟩

theorem hidesTo_setOrder (v : Sample) (p : List HostInput) (n : Sample) (s : State) :
    HidesTo v p (exec (.setOrder n)) s := by
  by_cases h1 : n.toInt = 1
  · exact ⟨_, v, exec_setOrder_of_eq_one h1 s, exec_setOrder_of_eq_one h1 _, id⟩
  by_cases h2 : n.toInt = 2
  · exact ⟨_, v, exec_setOrder_of_eq_two h2 s, exec_setOrder_of_eq_two h2 _, id⟩
  · exact ⟨_, v, exec_setOrder_of_ne h1 h2 s, exec_setOrder_of_ne h1 h2 _, id⟩

/-- A window operation shifts the oldest slot out unread; a tracker leaves it. -/
theorem hidesTo_runOp (v : Sample) (p : List HostInput)
    (hi : windowOp i = true ∨ trackerOp i = true) (s : State) : HidesTo v p (exec i) s := by
  cases i <;> simp [windowOp, trackerOp] at hi
  case runTrkf | runTrks => exact ⟨_, v, rfl, rfl, id⟩
  all_goals exact ⟨_, s.w1, rfl, rfl, fun _ => rfl⟩

theorem hidesTo_run (v : Sample) (p : List HostInput) (x : Sample) (s : State) :
    HidesTo v p (exec (.run x)) s := by
  cases hsel : selected s.mode s.order x with
  | none =>
    have hs := exec_run_of_selected_eq_none hsel
    have hh := exec_run_of_selected_eq_none (s := s.hide v p) hsel
    exact ⟨_, v, hs, hh, id⟩
  | some op =>
    obtain ⟨hkind, hs⟩ := exec_run_of_selected_eq_some hsel
    obtain ⟨-, hh⟩ := exec_run_of_selected_eq_some (s := s.hide v p) hsel
    rw [HidesTo, hs, hh]
    exact hidesTo_runOp v p hkind s

theorem hidesTo_exec (v : Sample) (p : List HostInput) (i : Instr) (s : State) :
    HidesTo v p (exec i) s := by
  cases i with
  | new => exact ⟨_, 0#16, rfl, rfl, fun _ => rfl⟩
  | configure => exact ⟨_, v, rfl, rfl, id⟩
  | setFilter m => exact hidesTo_setFilter v p m s
  | setOrder n => exact hidesTo_setOrder v p n s
  | run x => exact hidesTo_run v p x s
  | runCheb1 | runCheb2 | runBess1 | runBess2 | runMedf | runMedr | runMeds =>
    exact hidesTo_runOp v p (.inl rfl) s
  | runTrkf | runTrks => exact hidesTo_runOp v p (.inr rfl) s

theorem hidesTo_transact (v : Sample) (p : List HostInput) (w : CmdWord) (s : State) :
    HidesTo v p (transact w) s := by
  unfold HidesTo transact
  cases decode w with
  | error e => exact hidesTo_raiseError v p .illegalCommand s
  | ok i => exact hidesTo_exec v p i s

/-- No transaction reads or writes the host's stream. -/
theorem transact_take (h : transact w s = .next t) (p : List HostInput) :
    transact w (s.take p) = .next (t.take p) := by
  obtain ⟨t', v', hs, hh, hv⟩ := hidesTo_transact s.w0 p w s
  cases hs.symm.trans h
  rw [hv rfl] at hh
  exact hh

/-- The answer takes nothing from the host's stream: `transact_take` at the stream as it is leaves
it as it is. -/
theorem transact_pending (h : transact w s = .next t) : t.pending = s.pending := by
  have htake : transact w s = .next (t.take s.pending) := transact_take h s.pending
  injection h.symm.trans htake with ht
  exact (congrArg State.pending ht :)

/-- The response port is written by every command and read by none. -/
theorem transact_idle (w : CmdWord) (s : State) : transact w s.idle = transact w s := by
  unfold transact
  cases decode w with
  | error e => rfl
  | ok i => cases i <;> rfl

theorem responsesTo_cons (h : transact w s = .next t) (ws : List CmdWord) :
    responsesTo (w :: ws) s = t.rsp :: responsesTo ws t := by
  rw [responsesTo, h]

theorem afterCommands_cons (h : transact w s = .next t) (ws : List CmdWord) :
    afterCommands (w :: ws) s = afterCommands ws t := by
  rw [afterCommands, h]

/-- The host sees neither the oldest slot nor its own stream in the responses. -/
theorem responsesTo_hide (ws : List CmdWord) (s : State) (v : Sample) (p : List HostInput) :
    responsesTo ws (s.hide v p) = responsesTo ws s := by
  induction ws generalizing s v with
  | nil => rfl
  | cons w ws ih =>
    obtain ⟨t, v', hs, hh, -⟩ := hidesTo_transact v p w s
    rw [responsesTo_cons hs, responsesTo_cons hh, ih]
    rfl

theorem responsesTo_idle (ws : List CmdWord) (s : State) :
    responsesTo ws s.idle = responsesTo ws s := by
  cases ws with
  | nil => rfl
  | cons w ws => rw [responsesTo, responsesTo, transact_idle]

theorem responsesTo_length (ws : List CmdWord) (s : State) :
    (responsesTo ws s).length = ws.length := by
  induction ws generalizing s with
  | nil => rfl
  | cons w ws ih =>
    obtain ⟨t, -, h, -⟩ := transact_answers w s
    rw [responsesTo_cons h, List.length_cons, List.length_cons, ih]

/-- A step with a command presented is its transaction, with the rest of the stream pending. -/
theorem step_of_command {rest : List HostInput} (h : s.pending = .command w :: rest) :
    step s = transact w (s.take rest) := by
  rw [step, h]

theorem observe_succ (h : step s = .next t) (n : Nat) :
    observe (n + 1) s = t.rsp :: observe n t := by
  rw [observe, h]

theorem afterSteps_succ (h : step s = .next t) (n : Nat) :
    afterSteps (n + 1) s = afterSteps n t := by
  rw [afterSteps, h]

/-- What the stepped machine shows and where it ends, by induction on the commands presented. -/
theorem steps_eq_transactions (ws : List CmdWord) (s : State)
    (hs : s.pending = ws.map .command) :
    observe ws.length s = responsesTo ws s ∧
      ∃ t, afterSteps ws.length s = some t ∧ afterCommands ws (s.take []) = some t := by
  induction ws generalizing s with
  | nil => exact ⟨rfl, s, rfl, congrArg some (congrArg s.take hs).symm⟩
  | cons w ws ih =>
    obtain ⟨t, -, h, -⟩ := transact_answers w (s.take (ws.map .command))
    have hstep : step s = .next t := (step_of_command hs).trans h
    have hfull : transact w s = .next (t.take s.pending) := transact_take h s.pending
    have hempty : transact w (s.take []) = .next (t.take []) := transact_take h []
    obtain ⟨hobs, u, hsteps, hcmds⟩ := ih t (transact_pending h)
    have hresp : responsesTo ws (t.take s.pending) = responsesTo ws t :=
      responsesTo_hide ws t t.w0 s.pending
    refine ⟨?_, u, ?_, ?_⟩
    · rw [List.length_cons, observe_succ hstep, responsesTo_cons hfull, hresp, hobs]
      rfl
    · rw [List.length_cons, afterSteps_succ hstep, hsteps]
    · rw [afterCommands_cons hempty, hcmds]

/-- Settles O48, by induction on the command list: a step is a transaction that does not read the
stream. -/
theorem stepsFoldOverCommands : Obligations.StepsFoldOverCommands := by
  unfold Obligations.StepsFoldOverCommands
  intro ws s hs
  obtain ⟨hobs, hafter⟩ := steps_eq_transactions ws s hs
  exact ⟨hobs, responsesTo_length ws s, hafter⟩

/-- Two states with the same registers differ by their ports alone. -/
theorem State.SameRegisters.idle_eq (h : s.SameRegisters t) :
    t.idle = s.idle.take t.pending := by
  obtain ⟨w0, w1, w2, e, c, m, o, r, p⟩ := s
  obtain ⟨h0, h1, h2, he, hc, hm, ho⟩ := h
  subst h0 h1 h2 he hc hm ho
  rfl

/-- Settles O49: the states differ by a response that is not read and a stream that is hidden. -/
theorem onlyRegistersPersist : Obligations.OnlyRegistersPersist := by
  unfold Obligations.OnlyRegistersPersist
  intro ws s t h
  calc responsesTo ws s
      = responsesTo ws s.idle := (responsesTo_idle ws s).symm
    _ = responsesTo ws (s.idle.take t.pending) :=
        (responsesTo_hide ws s.idle s.w0 t.pending).symm
    _ = responsesTo ws t := by rw [← h.idle_eq, responsesTo_idle]

/-- Settles O50: the oldest slot is hidden. -/
theorem oldestSlotInvisible : Obligations.OldestSlotInvisible := by
  unfold Obligations.OldestSlotInvisible
  exact fun ws s v => responsesTo_hide ws s v s.pending

end Sys2Proof.Machine
end

section
/-! PROOFS. O2 to O5: decoder and encoder agree (30_encoding.md R38 to R50). -/

namespace Sys2Proof

open Machine (decode_commandWord op_cases commandWord_eq_encode_setFilter)

variable {w : CmdWord} {i : Instr}

/-- A run operation is carried by `RUN` (30_encoding.md R40); a command carries itself. -/
theorem decode_encode (i : Instr) : decode (encode i) = .ok i.carrier := by
  rw [encode, decode_commandWord]
  cases i <;> simp [Instr.opcode, Instr.argument, Instr.carrier]

theorem Instr.carrier_of_wellFormed (h : i.wellFormed = true) : i.carrier = i := by
  cases i <;> simp_all [Instr.wellFormed, Instr.carrier]

/-- Settles O2: the fields of the encoded word are the opcode and the argument. -/
theorem decodeEncode : Obligations.DecodeEncode := by
  unfold Obligations.DecodeEncode
  exact ⟨fun i hi => by rw [decode_encode, i.carrier_of_wellFormed hi], decode_encode⟩

/-- A word is the encoding of the command it decodes to, or it is illegal. -/
theorem decode_cases (w : CmdWord) :
    (∃ i : Instr, i.wellFormed = true ∧ encode i = w) ∨ ∃ e, decode w = .error e := by
  obtain ⟨op, arg, rfl⟩ : ∃ op arg, commandWord op arg = w := ⟨_, _, commandWord_op_arg w⟩
  obtain rfl | rfl | rfl | rfl | rfl | h5 := op_cases op
  · by_cases ha : arg = 0#16
    · exact .inl ⟨.new, rfl, by rw [ha]; rfl⟩
    · exact .inr ⟨.reservedArgument, by simp [decode_commandWord, ha]⟩
  · by_cases ha : arg = 0#16
    · exact .inl ⟨.configure, rfl, by rw [ha]; rfl⟩
    · exact .inr ⟨.reservedArgument, by simp [decode_commandWord, ha]⟩
  · by_cases ha : argReserved arg = 0#13
    · exact .inl ⟨_, rfl, (commandWord_eq_encode_setFilter ha).symm⟩
    · exact .inr ⟨.reservedArgument, by simp [decode_commandWord, ha]⟩
  · exact .inl ⟨.setOrder arg, rfl, rfl⟩
  · exact .inl ⟨.run arg, rfl, rfl⟩
  · exact .inr ⟨.reservedOpcode, by simp [decode_commandWord, h5]⟩

/-- Settles O3: a word that is not illegal is the encoding of a command, which it decodes to. -/
theorem encodeDecode : Obligations.EncodeDecode := by
  unfold Obligations.EncodeDecode
  intro w i h
  obtain ⟨j, hj, rfl⟩ | ⟨e, he⟩ := decode_cases w
  · rw [decode_encode, j.carrier_of_wellFormed hj] at h
    cases h
    exact ⟨rfl, hj⟩
  · cases he.symm.trans h

theorem decode_eq_ok_iff (hi : i.wellFormed = true) : decode w = .ok i ↔ w = encode i := by
  constructor
  · exact fun h => (encodeDecode w i h).1.symm
  · rintro rfl
    rw [decode_encode, i.carrier_of_wellFormed hi]

/-! The table's masks, field by field (30_encoding.md R50). -/

theorem cmdOp_and (a b : CmdWord) : cmdOp (a &&& b) = cmdOp a &&& cmdOp b :=
  BitVec.extractLsb'_and

theorem cmdArg_and (a b : CmdWord) : cmdArg (a &&& b) = cmdArg a &&& cmdArg b :=
  BitVec.extractLsb'_and

theorem argReserved_and (a b : Sample) : argReserved (a &&& b) = argReserved a &&& argReserved b :=
  BitVec.extractLsb'_and

theorem cmdArg_eq_setWidth (w : CmdWord) : cmdArg w = w.setWidth 16 :=
  BitVec.setWidth_eq_extractLsb' (by decide) |>.symm

theorem argCode_cmdArg (w : CmdWord) : argCode (cmdArg w) = w.setWidth 3 := by
  ext i hi
  simp [argCode, cmdArg]

/-- A mask that covers the opcode shows it. -/
theorem cmdOp_of_and_eq {mask row : CmdWord} (hmask : cmdOp mask = 7#3)
    (h : w &&& mask = row) : cmdOp w = cmdOp row := by
  have hop := cmdOp_and w mask
  rw [h, hmask] at hop
  exact (hop.trans BitVec.and_allOnes).symm

theorem and_mask_eq_iff_cmdOp (op : BitVec 3) :
    w &&& 0x70000#19 = commandWord op 0#16 ↔ w = commandWord op (w.setWidth 16) := by
  rw [← cmdArg_eq_setWidth]
  constructor
  · intro h
    have hop := cmdOp_of_and_eq (by decide) h
    rw [cmdOp_commandWord] at hop
    rw [← hop, commandWord_op_arg]
  · intro h
    rw [h, Laws.TableRow.and_opcode_mask]

theorem and_mask_eq_iff_setFilter :
    w &&& 0x7FFF8#19 = 0x20000#19 ↔
      ∃ m : FilterMode, m.code = w.setWidth 3 ∧ w = encode (.setFilter m) := by
  constructor
  · intro h
    have hop : cmdOp w = 2#3 := cmdOp_of_and_eq (by decide) h
    have hres := argReserved_and (cmdArg w) (cmdArg 0x7FFF8#19)
    rw [← cmdArg_and, h, show argReserved (cmdArg 0x7FFF8#19) = BitVec.allOnes 13 by decide,
      BitVec.and_allOnes] at hres
    refine ⟨FilterMode.ofCode (argCode (cmdArg w)), ?_, ?_⟩
    · rw [FilterMode.code_ofCode, argCode_cmdArg]
    · rw [← commandWord_eq_encode_setFilter hres.symm, ← hop, commandWord_op_arg]
  · rintro ⟨m, -, rfl⟩
    exact Laws.TableRow.setFilter m

/-- Settles O4: each mask shows the opcode, and for three commands the reserved bits of the argument
too; every encoded word lies in its row. -/
theorem decoderMatchMask : Obligations.DecoderMatchMask := by
  unfold Obligations.DecoderMatchMask
  intro w
  have hall : w &&& 0x7FFFF#19 = w := BitVec.and_allOnes
  refine ⟨?_, ?_, ?_, ?_, ?_, fun hnew hconf hfilter horder hrun => ?_⟩
  · rw [decode_eq_ok_iff rfl, hall]; rfl
  · rw [decode_eq_ok_iff rfl, hall]; rfl
  · simp only [decode_eq_ok_iff (i := .setFilter _) rfl]
    exact and_mask_eq_iff_setFilter
  · rw [decode_eq_ok_iff rfl]
    exact and_mask_eq_iff_cmdOp 3#3
  · rw [decode_eq_ok_iff rfl]
    exact and_mask_eq_iff_cmdOp 4#3
  · obtain ⟨i, hi, rfl⟩ | herr := decode_cases w
    · cases i with
      | new => exact absurd Laws.TableRow.new hnew
      | configure => exact absurd Laws.TableRow.configure hconf
      | setFilter m => exact absurd (Laws.TableRow.setFilter m) hfilter
      | setOrder n => exact absurd (Laws.TableRow.setOrder n) horder
      | run x => exact absurd (Laws.TableRow.run x) hrun
      | _ => cases hi
    · exact herr

/-- A command word as a number (30_encoding.md R38). -/
theorem toNat_commandWord (op : BitVec 3) (arg : Sample) :
    (commandWord op arg).toNat = 0x10000 * op.toNat + arg.toNat := by
  change (op ++ arg).toNat = _
  rw [BitVec.toNat_append, ← Nat.shiftLeft_add_eq_or_of_lt arg.isLt, Nat.shiftLeft_eq]
  omega

theorem toNat_wrap16 (i : Int) : ((Machine.wrap16 i).toNat : Int) = i % 65536 := by
  rw [Machine.wrap16, BitVec.toNat_ofInt]
  omega

/-- Settles O5: a word is its opcode times `0x10000` and its argument. -/
theorem assemblerWords : Obligations.AssemblerWords := by
  unfold Obligations.AssemblerWords
  refine ⟨rfl, rfl, fun m => ?_, fun n _ _ => ?_, fun x _ _ => ?_⟩
  · cases m <;> rfl
  · rw [encode, toNat_commandWord, Nat.cast_add]
    exact congrArg _ (toNat_wrap16 n)
  · rw [encode, toNat_commandWord, Nat.cast_add]
    exact congrArg _ (toNat_wrap16 x)

end Sys2Proof
end

section
/-! PROOFS. What a transaction can do, by kind of command, and what follows for the responses, the
configuration and the invariant: O6, O13, O37, O44, O45, O51, O52. -/

namespace Sys2Proof.Machine

variable {w : CmdWord} {s t : State} {r : RspWord}

/-- The configuration words but `NEW` (30_encoding.md R40). -/
def ConfigOpcode (w : CmdWord) : Prop := cmdOp w = 1#3 ∨ cmdOp w = 2#3 ∨ cmdOp w = 3#3

/-- `t` is `s` with configuration that unsets nothing, answered with `ok 0`. -/
def Configures (s t : State) : Prop :=
  ∃ m o, t = { s with mode := m, order := o }.present (successWord 0#16) ∧
    (m = .unset → s.mode = .unset) ∧ (o = .unset → s.order = .unset)

theorem configures_configure (h : exec .configure s = .next t) : Configures s t := by
  cases h
  exact ⟨.cheb, .one, rfl, nofun, nofun⟩

theorem setFilter_refused_or_configures {m : FilterMode} (h : exec (.setFilter m) s = .next t) :
    (∃ c, t = s.present (errorWord c)) ∨ Configures s t := by
  by_cases hm : m = .unset
  · rw [exec_setFilter, if_pos hm, raiseError_eq_next] at h
    exact .inl ⟨_, h⟩
  · rw [exec_setFilter, if_neg hm, respond_eq_next] at h
    exact .inr ⟨m, s.order, h, fun hu => absurd hu hm, id⟩

theorem setOrder_refused_or_configures {n : Sample} (h : exec (.setOrder n) s = .next t) :
    (∃ c, t = s.present (errorWord c)) ∨ Configures s t := by
  rw [exec_setOrder] at h
  by_cases h1 : n.toInt = 1
  · rw [if_pos h1, respond_eq_next] at h
    exact .inr ⟨s.mode, .one, h, id, nofun⟩
  by_cases h2 : n.toInt = 2
  · rw [if_neg h1, if_pos h2, respond_eq_next] at h
    exact .inr ⟨s.mode, .two, h, id, nofun⟩
  · rw [if_neg h1, if_neg h2, raiseError_eq_next] at h
    exact .inl ⟨_, h⟩

/-- `t` is what the run operation that `s` selects for `w`'s sample answers. -/
def RunsSelected (w : CmdWord) (s t : State) : Prop :=
  ∃ op, selected s.mode s.order (cmdArg w) = some op ∧
    (windowOp op = true ∨ trackerOp op = true) ∧ exec op s = .next t

theorem run_refused_or_selected (h : exec (.run (cmdArg w)) s = .next t) :
    (∃ c, t = s.present (errorWord c)) ∨ RunsSelected w s t := by
  cases hsel : selected s.mode s.order (cmdArg w) with
  | none =>
    rw [exec_run_of_selected_eq_none hsel, raiseError_eq_next] at h
    exact .inl ⟨_, h⟩
  | some op =>
    obtain ⟨hkind, heq⟩ := exec_run_of_selected_eq_some hsel
    exact .inr ⟨op, hsel, hkind, heq.symm.trans h⟩

/-- The four things a transaction can do: be refused, clear, configure, or run one operation. -/
theorem transact_effect (h : transact w s = .next t) :
    (∃ c, t = s.present (errorWord c)) ∨
    (w = 0x00000#19 ∧ t = s.clear.present (successWord 0#16)) ∨
    (ConfigOpcode w ∧ Configures s t) ∨
    (cmdOp w = 4#3 ∧ RunsSelected w s t) := by
  have hcases := transact_cases (cmdOp w) (cmdArg w) s
  rw [commandWord_op_arg] at hcases
  obtain ⟨hop, harg, heq⟩ | ⟨hop, -, heq⟩ | ⟨hop, -, heq⟩ | ⟨hop, heq⟩ | ⟨hop, heq⟩ | ⟨-, heq⟩ :=
    hcases
  all_goals rw [heq] at h
  · refine .inr (.inl ⟨?_, respond_eq_next.mp h⟩)
    rw [← commandWord_op_arg w, hop, harg]
    rfl
  · exact .inr (.inr (.inl ⟨.inl hop, configures_configure h⟩))
  · exact (setFilter_refused_or_configures h).imp_right
      fun hconf => .inr (.inl ⟨.inr (.inl hop), hconf⟩)
  · exact (setOrder_refused_or_configures h).imp_right
      fun hconf => .inr (.inl ⟨.inr (.inr hop), hconf⟩)
  · exact (run_refused_or_selected h).imp_right fun hrun => .inr (.inr ⟨hop, hrun⟩)
  · exact .inl ⟨_, raiseError_eq_next.mp h⟩

/-- Settles O13: a word that is neither `NEW` nor `RUN` is refused or configures. -/
theorem dataSurvivesConfiguration : Obligations.DataSurvivesConfiguration := by
  unfold Obligations.DataSurvivesConfiguration
  intro w s t h0 h4 h
  obtain ⟨c, rfl⟩ | ⟨rfl, -⟩ | ⟨-, m, o, rfl, -⟩ | ⟨hop, -⟩ := transact_effect h
  · exact ⟨rfl, rfl, rfl, rfl, rfl, rfl⟩
  · exact absurd rfl h0
  · exact ⟨rfl, rfl, rfl, rfl, rfl, rfl⟩
  · exact absurd hop h4

/-- A selected operation leaves the configuration. -/
theorem sameConfig_of_runsSelected (h : RunsSelected w s t) : s.SameConfig t := by
  obtain ⟨op, -, hkind, heq⟩ := h
  exact sameConfig_of_runOp hkind heq

/-- Settles O37: only clearing unsets; every other effect leaves what is set set. -/
theorem onlyNewUnsets : Obligations.OnlyNewUnsets := by
  unfold Obligations.OnlyNewUnsets
  intro w s t h
  obtain ⟨c, rfl⟩ | ⟨hw, -⟩ | ⟨-, m, o, rfl, hm, ho⟩ | ⟨-, hrun⟩ := transact_effect h
  · exact ⟨fun hne hu => absurd hu hne, fun hne hu => absurd hu hne⟩
  · exact ⟨fun _ _ => hw, fun _ _ => hw⟩
  · exact ⟨fun hne hu => absurd (hm hu) hne, fun hne hu => absurd (ho hu) hne⟩
  · obtain ⟨hmode, horder⟩ := sameConfig_of_runsSelected hrun
    rw [hmode, horder]
    exact ⟨fun hne hu => absurd hu hne, fun hne hu => absurd hu hne⟩

/-- Settles O44: what clears or configures answers `ok 0`; the rest is refused or `RUN`. -/
theorem onlyRunReturnsData : Obligations.OnlyRunReturnsData := by
  unfold Obligations.OnlyRunReturnsData
  intro w s t r h4 h hr herr
  obtain ⟨c, rfl⟩ | ⟨-, rfl⟩ | ⟨-, m, o, rfl, -⟩ | ⟨hop, -⟩ := transact_effect h
  · obtain rfl := Option.some.inj hr
    rw [rspErr_errorWord] at herr
    cases herr
  · exact (Option.some.inj hr).symm
  · exact (Option.some.inj hr).symm
  · exact absurd hop h4

/-- Settles O45: every command is answered, and no transaction touches the host's stream. -/
theorem everyCommandIsAnswered : Obligations.EveryCommandIsAnswered := by
  unfold Obligations.EveryCommandIsAnswered
  intro w s
  obtain ⟨t, r, h, hr⟩ := transact_answers w s
  exact ⟨t, r, h, hr, transact_pending h⟩

theorem responseText_errorWord (c : Cause) :
    responseText (errorWord c) = some ("err " ++ causeText c) := by
  rw [responseText, if_pos (rspErr_errorWord c), causeOfCode_rspData_errorWord, Option.map_some]

/-- Settles O6: an error response is the word of its cause, whose text is written from its code. -/
theorem responsesHaveText : Obligations.ResponsesHaveText := by
  unfold Obligations.ResponsesHaveText
  refine fun w s t r h hr => ⟨fun hok => ?_, fun herr => ?_⟩
  · rw [responseText, hok, if_neg Bool.false_ne_true]
  · obtain ⟨c, -, rfl, -⟩ := raises_of_rspErr h hr herr
    exact ⟨c, rfl, responseText_errorWord c⟩

/-! The invariant. -/

/-- Settles O51: the counter is zero and nothing is presented. -/
theorem resetSatisfiesInvariant : Obligations.ResetSatisfiesInvariant := by
  unfold Obligations.ResetSatisfiesInvariant
  exact ⟨Nat.zero_le 10, nofun⟩

theorem legalResponse_errorWord (c : Cause) : LegalResponse (errorWord c) := by
  cases c <;> decide

/-- What a transaction answers is legal (60_exceptions.md R95). -/
theorem legalResponse_of_transact (h : transact w s = .next t) (hr : t.rsp = some r) :
    LegalResponse r := by
  intro herr
  obtain ⟨c, -, rfl, -⟩ := raises_of_rspErr h hr herr
  exact legalResponse_errorWord c herr

/-- A run operation keeps the counter in range (10_state.md R25): only a tracker writes it, and it
stores 0 to 10. -/
theorem stepCounter_le_of_runOp {op : Instr} (hkind : windowOp op = true ∨ trackerOp op = true)
    (h : exec op s = .next t) (hs : s.stepCounter.toNat ≤ 10) : t.stepCounter.toNat ≤ 10 := by
  obtain hwin | htrk := hkind
  · obtain ⟨v, y, heq⟩ := windowOp_answers hwin s
    cases heq.symm.trans h
    exact hs
  · obtain ⟨e, c, heq, ⟨k, rfl⟩ | rfl⟩ := trackerOp_answers htrk s
    · cases heq.symm.trans h
      exact trksStore_le k
    · cases heq.symm.trans h
      exact hs

theorem stepCounter_le_of_transact (h : transact w s = .next t)
    (hs : s.stepCounter.toNat ≤ 10) : t.stepCounter.toNat ≤ 10 := by
  obtain ⟨c, rfl⟩ | ⟨-, rfl⟩ | ⟨-, m, o, rfl, -⟩ | ⟨-, op, -, hkind, heq⟩ := transact_effect h
  · exact hs
  · exact Nat.zero_le 10
  · exact hs
  · exact stepCounter_le_of_runOp hkind heq hs

/-- A transaction keeps the counter's range and answers legally, whatever was presented before. -/
theorem inv_of_transact (h : transact w s = .next t) (hs : s.stepCounter.toNat ≤ 10) : t.Inv :=
  ⟨stepCounter_le_of_transact h hs, fun _ hr => legalResponse_of_transact h hr⟩

/-- A step with nothing presented idles. -/
theorem step_of_nil (h : s.pending = []) : step s = .next s.idle := by
  rw [step, h]

/-- What a step can do: idle, take the reset, or serve one command. -/
theorem step_cases (s : State) :
    (s.pending = [] ∧ step s = .next s.idle) ∨
    (∃ rest, s.pending = .reset :: rest ∧ step s = .next (s.take rest).pinReset) ∨
    (∃ w rest, s.pending = .command w :: rest ∧ step s = transact w (s.take rest)) := by
  cases hp : s.pending with
  | nil => exact .inl ⟨rfl, step_of_nil hp⟩
  | cons input rest =>
    cases input with
    | reset => exact .inr (.inl ⟨rest, rfl, by rw [step, hp]⟩)
    | command w => exact .inr (.inr ⟨w, rest, rfl, step_of_command hp⟩)

/-- Settles O52: idling and reset present nothing, and a command's transaction keeps the range. -/
theorem stepKeepsInvariant : Obligations.StepKeepsInvariant := by
  unfold Obligations.StepKeepsInvariant
  intro s t hinv h
  obtain ⟨-, heq⟩ | ⟨rest, -, heq⟩ | ⟨w, rest, -, heq⟩ := step_cases s
  · cases heq.symm.trans h
    exact ⟨hinv.counter, nofun⟩
  · cases heq.symm.trans h
    exact ⟨Nat.zero_le 10, nofun⟩
  · exact inv_of_transact (heq.symm.trans h) hinv.counter

end Sys2Proof.Machine
end

section
/-! PROOFS. O53 to O56: the clocked port (30_encoding.md R51, R52, 70_reset_and_hazards.md R107). -/

namespace Sys2Proof.Machine

variable {s t : State} {p : Port} {q : PinsIn} {w : CmdWord} {ws : List CmdWord}

/-! States that differ by their ports alone. -/

theorem State.SameRegisters.refl (s : State) : s.SameRegisters s :=
  ⟨rfl, rfl, rfl, rfl, rfl, rfl, rfl⟩

theorem State.idle_sameRegisters (s : State) : s.idle.SameRegisters s :=
  ⟨rfl, rfl, rfl, rfl, rfl, rfl, rfl⟩

theorem State.SameRegisters.trans {u : State} (h : s.SameRegisters t) (h' : t.SameRegisters u) :
    s.SameRegisters u :=
  ⟨h.w0.trans h'.w0, h.w1.trans h'.w1, h.w2.trans h'.w2, h.helper.trans h'.helper,
    h.stepCounter.trans h'.stepCounter, h.mode.trans h'.mode, h.order.trans h'.order⟩

/-- From idling, the same commands leave the same registers. -/
theorem afterCommands_of_idle (h : afterCommands ws s.idle = some t) :
    ∃ u, afterCommands ws s = some u ∧ t.SameRegisters u := by
  cases ws with
  | nil =>
    obtain rfl : s.idle = t := Option.some.inj h
    exact ⟨s, rfl, s.idle_sameRegisters⟩
  | cons w ws =>
    rw [afterCommands, transact_idle] at h
    exact ⟨t, h, .refl t⟩

/-! What one edge without reset does. -/

/-- The command in flight, if there is one. -/
def Port.inFlight (p : Port) : List CmdWord :=
  match p.phase with
  | .ready => []
  | .busy w _ => [w]
  | .responding _ => []

/-- The command accepted at an edge, if there is one. -/
def Port.taken (p : Port) (q : PinsIn) : List CmdWord := if p.accepts q then [q.cmd] else []

theorem Port.inFlight_length_le (p : Port) : p.inFlight.length ≤ 1 := by
  unfold Port.inFlight
  cases p.phase with
  | busy => exact Nat.le_refl 1
  | ready | responding => exact Nat.zero_le 1

theorem Port.inFlight_eq_nil_iff (p : Port) : p.inFlight = [] ↔ ∀ w k, p.phase ≠ .busy w k := by
  unfold Port.inFlight
  cases p.phase <;> simp

theorem Port.inFlight_of_cmdReady (h : p.out.cmdReady = true) : p.inFlight = [] := by
  rw [Port.inFlight_eq_nil_iff]
  intro w k hbusy
  rw [Port.out, hbusy] at h
  cases h

theorem Port.acceptedWords_cons (p : Port) (q : PinsIn) (qs : List PinsIn) :
    p.acceptedWords (q :: qs) = p.taken q ++ (p.clock q).acceptedWords qs := by
  rw [Port.acceptedWords, Port.taken]
  split_ifs <;> rfl

theorem Port.map_some_responses_cons (p : Port) (q : PinsIn) (qs : List PinsIn) :
    (p.responses (q :: qs)).map some =
      (p.clock q).out.rsp.toList.map some ++ ((p.clock q).responses qs).map some := by
  rw [Port.responses]
  cases (p.clock q).out.rsp <;> rfl

/-- The port `p`, around the engine that was `e`, presents nothing, and the given commands are in
flight. -/
def Waits (e : State) (p : Port) (ws : List CmdWord) : Prop :=
  p.inFlight = ws ∧ p.out.rsp = none ∧ (p.engine = e ∨ p.engine = e.idle)

/-- The one given command has completed in `p`, on the engine that was `e`: its response is
presented and nothing is in flight. -/
def Completes (e : State) (p : Port) (ws : List CmdWord) : Prop :=
  ∃ (w : CmdWord) (r : RspWord), ws = [w] ∧ transact w e = .next p.engine ∧ p.engine.rsp = some r ∧
    p.out.rsp = some r ∧ p.inFlight = []

theorem Port.complete_eq (h : transact w p.engine = .next t) :
    p.complete w =
      { p with engine := t, phase := .responding (Config.readyWithResponse p.accepted) } := by
  rw [Port.complete, h]

theorem Port.complete_completes (p : Port) (w : CmdWord) :
    Completes p.engine (p.complete w) [w] := by
  obtain ⟨t, r, h, hr⟩ := transact_answers w p.engine
  rw [Port.complete_eq h]
  exact ⟨w, r, rfl, h, hr, hr, rfl⟩

theorem Port.advance_effect (p : Port) (w : CmdWord) (n : Nat) :
    Waits p.engine (p.advance w n) [w] ∨ Completes p.engine (p.advance w n) [w] := by
  cases n with
  | zero => exact .inr (p.complete_completes w)
  | succ k => exact .inl ⟨rfl, rfl, .inl rfl⟩

theorem Port.rest_waits (p : Port) : Waits p.engine p.rest [] := ⟨rfl, rfl, .inr rfl⟩

theorem Port.clock_of_accepts (h : p.accepts q = true) : p.clock q = p.accept q.cmd := by
  have hrst : q.rst = false := by
    simp only [Port.accepts, Bool.and_eq_true, Bool.not_eq_true'] at h
    exact h.1.1
  rw [Port.clock, hrst, if_neg Bool.false_ne_true, if_pos h]

theorem Port.clock_of_busy {k : Nat} (hrst : q.rst = false) (hphase : p.phase = .busy w k) :
    p.clock q = p.advance w k := by
  have hacc : p.accepts q = false := by simp [Port.accepts, Port.out, hphase]
  rw [Port.clock, hrst, hacc, if_neg Bool.false_ne_true, if_neg Bool.false_ne_true, hphase]

theorem Port.clock_of_not_accepts (hrst : q.rst = false) (hacc : p.accepts q = false)
    (hphase : ∀ w k, p.phase ≠ .busy w k) : p.clock q = p.rest := by
  rw [Port.clock, hrst, hacc, if_neg Bool.false_ne_true, if_neg Bool.false_ne_true]
  cases hp : p.phase with
  | busy w k => exact absurd hp (hphase w k)
  | ready | responding => rfl

/-- At an edge without reset, the command in flight or accepted waits or completes. -/
theorem Port.clock_effect (p : Port) (hrst : q.rst = false) :
    Waits p.engine (p.clock q) (p.inFlight ++ p.taken q) ∨
      Completes p.engine (p.clock q) (p.inFlight ++ p.taken q) := by
  cases hacc : p.accepts q with
  | true =>
    have hready : p.out.cmdReady = true := by
      simp only [Port.accepts, Bool.and_eq_true] at hacc
      exact hacc.2
    rw [Port.clock_of_accepts hacc, Port.inFlight_of_cmdReady hready, Port.taken, if_pos hacc]
    exact Port.advance_effect _ q.cmd _
  | false =>
    rw [Port.taken, hacc, if_neg Bool.false_ne_true, List.append_nil]
    by_cases hbusy : ∃ w k, p.phase = .busy w k
    · obtain ⟨w, k, hphase⟩ := hbusy
      rw [Port.clock_of_busy hrst hphase, Port.inFlight, hphase]
      exact p.advance_effect w k
    · have hphase : ∀ w k, p.phase ≠ .busy w k := fun w k h => hbusy ⟨w, k, h⟩
      rw [Port.clock_of_not_accepts hrst hacc hphase, p.inFlight_eq_nil_iff.mpr hphase]
      exact .inl p.rest_waits

/-! The refinement. -/

/-- The answered commands, of those in flight and accepted, are `done`; the rest is in flight. -/
def Refines (p : Port) (pins : List PinsIn) (done : List CmdWord) : Prop :=
  p.inFlight ++ p.acceptedWords pins = done ++ (p.run pins).inFlight ∧
  (p.responses pins).map some = responsesTo done p.engine ∧
  ∃ t, afterCommands done p.engine = some t ∧ (p.run pins).engine.SameRegisters t

theorem refines_nil (p : Port) : Refines p [] [] :=
  ⟨List.append_nil _, rfl, p.engine, rfl, .refl p.engine⟩

/-- A waiting edge answers nothing and leaves the registers. -/
theorem refines_of_waits {pins : List PinsIn} {done : List CmdWord}
    (hw : Waits p.engine (p.clock q) (p.inFlight ++ p.taken q))
    (h : Refines (p.clock q) pins done) : Refines p (q :: pins) done := by
  obtain ⟨hflight, hrsp, hengine⟩ := hw
  obtain ⟨hwords, hresp, t, hafter, hsame⟩ := h
  have hwords' :
      p.inFlight ++ p.acceptedWords (q :: pins) = done ++ (p.run (q :: pins)).inFlight := by
    rw [Port.acceptedWords_cons, ← List.append_assoc, ← hflight, hwords]
    rfl
  rw [Refines, Port.map_some_responses_cons, hrsp, hresp]
  refine ⟨hwords', ?_⟩
  obtain heng | heng := hengine
  · rw [heng] at hafter ⊢
    exact ⟨rfl, t, hafter, hsame⟩
  · rw [heng] at hafter ⊢
    obtain ⟨u, hu, htu⟩ := afterCommands_of_idle hafter
    exact ⟨responsesTo_idle done p.engine, u, hu, hsame.trans htu⟩

/-- A completing edge answers the first of the commands. -/
theorem refines_of_completes {pins : List PinsIn} {done : List CmdWord}
    (hw : p.inFlight ++ p.taken q = [w]) (hc : Completes p.engine (p.clock q) [w])
    (h : Refines (p.clock q) pins done) : Refines p (q :: pins) (w :: done) := by
  obtain ⟨w', r, hww, hnext, hr, hrsp, hflight⟩ := hc
  obtain rfl : w = w' := by simpa using hww
  obtain ⟨hwords, hresp, t, hafter, hsame⟩ := h
  refine ⟨?_, ?_, t, ?_, hsame⟩
  · rw [Port.acceptedWords_cons, ← List.append_assoc, hw]
    rw [hflight, List.nil_append] at hwords
    rw [hwords]
    rfl
  · rw [Port.map_some_responses_cons, hrsp, hresp, responsesTo_cons hnext, hr]
    rfl
  · rw [afterCommands_cons hnext, hafter]

theorem run_refines (pins : List PinsIn) (p : Port) (hrst : ∀ q ∈ pins, q.rst = false) :
    ∃ done, Refines p pins done := by
  induction pins generalizing p with
  | nil => exact ⟨[], refines_nil p⟩
  | cons q pins ih =>
    obtain ⟨hq, hpins⟩ := List.forall_mem_cons.mp hrst
    obtain ⟨done, hdone⟩ := ih (p.clock q) hpins
    obtain hwait | hcomp := p.clock_effect hq
    · exact ⟨done, refines_of_waits hwait hdone⟩
    · obtain ⟨w, r, hw, -⟩ := id hcomp
      exact ⟨w :: done, refines_of_completes hw (hw ▸ hcomp) hdone⟩

/-- Settles O56, by induction on the edges: at each, the command in flight or accepted waits or
completes. -/
theorem portRefinesTransactions : Obligations.PortRefinesTransactions := by
  unfold Obligations.PortRefinesTransactions
  intro p pins hready hrst
  obtain ⟨done, hwords, hresp, t, hafter, hsame⟩ := run_refines pins p hrst
  have hflight : p.inFlight = [] := by rw [Port.inFlight, hready]
  rw [hflight, List.nil_append] at hwords
  exact ⟨done, (p.run pins).inFlight, t, hwords, Port.inFlight_length_le _,
    Port.inFlight_eq_nil_iff _, hresp, hafter, hsame⟩

/-! Latency, recovery and reset. -/

theorem Port.clock_advance_succ (p : Port) (w : CmdWord) (n : Nat) (hrst : q.rst = false) :
    (p.advance w (n + 1)).clock q = p.advance w n := by
  rw [Port.clock_of_busy (w := w) (k := n) hrst rfl]
  cases n <;> rfl

/-- A command in flight completes after as many edges as cycles are left, and until then the port is
neither ready nor presenting. -/
theorem Port.run_advance (p : Port) (w : CmdWord) (pins : List PinsIn)
    (hrst : ∀ q ∈ pins, q.rst = false) :
    (∀ k < pins.length,
      ((p.advance w pins.length).run (pins.take k)).out = { cmdReady := false, rsp := none }) ∧
    (p.advance w pins.length).run pins = p.complete w := by
  induction pins with
  | nil => exact ⟨nofun, rfl⟩
  | cons q pins ih =>
    obtain ⟨hq, hpins⟩ := List.forall_mem_cons.mp hrst
    obtain ⟨hout, hrun⟩ := ih hpins
    rw [List.length_cons]
    refine ⟨fun k hk => ?_, ?_⟩
    · cases k with
      | zero => rfl
      | succ k =>
        rw [List.take_succ_cons, Port.run, p.clock_advance_succ w _ hq]
        exact hout k (by omega)
    · rw [Port.run, p.clock_advance_succ w _ hq, hrun]

/-- Settles O53: the accepted command is in flight for `LAT - 1` edges and then completes. -/
theorem portAnswersAfterLatency : Obligations.PortAnswersAfterLatency := by
  unfold Obligations.PortAnswersAfterLatency
  intro p w pins hready hrst hlen
  have hacc : p.accepts { rst := false, cmdValid := true, cmd := w } = true := by
    simp [Port.accepts, hready]
  have hrun := Port.run_advance { p with accepted := p.accepted + 1 } w pins hrst
  rw [hlen] at hrun
  obtain ⟨hout, hdone⟩ := hrun
  obtain ⟨w', r, hw, hnext, hr, hrsp, -⟩ :=
    Port.complete_completes { p with accepted := p.accepted + 1 } w
  obtain rfl : w = w' := by simpa using hw
  rw [← hdone] at hnext hr hrsp
  rw [Port.clock_of_accepts hacc, hlen]
  exact ⟨hout, _, r, hnext, hr, rfl, hrsp⟩

/-- Settles O54: at an edge that accepts nothing the port rests, whose engine idles. -/
theorem portRecovers : Obligations.PortRecovers := by
  unfold Obligations.PortRecovers
  intro p q hphase hrst hacc
  rw [Port.clock_of_not_accepts hrst hacc hphase]
  exact ⟨rfl, p.engine.idle_sameRegisters⟩

theorem State.pinReset_sameRegisters (s : State) : s.pinReset.SameRegisters State.reset :=
  ⟨rfl, rfl, rfl, rfl, rfl, rfl, rfl⟩

theorem Port.clock_of_rst (p : Port) (h : q.rst = true) :
    p.clock q = { p with engine := p.engine.pinReset, phase := .ready } := by
  rw [Port.clock, if_pos h]

/-- Settles O55: reset wins over acceptance and over the command in flight. -/
theorem portReset : Obligations.PortReset := by
  unfold Obligations.PortReset
  intro p q hrst
  have hacc : p.accepts q = false := by simp [Port.accepts, hrst]
  rw [p.clock_of_rst hrst]
  refine ⟨hacc, rfl, p.engine.pinReset_sameRegisters, fun t ht => ?_⟩
  cases ht
  exact ⟨rfl, rfl, rfl, rfl, rfl, rfl, rfl⟩

end Sys2Proof.Machine
end

section
/-! PROOFS. O8, O10, O14, O15, O16: reset and the configuration commands (40_configuration.md,
70_reset_and_hazards.md R107, R109). -/

namespace Sys2Proof.Machine

variable {s t : State} {m : FilterMode} {n : Sample}

/-- Settles O8: the reset entry is taken, and both reset and `NEW` leave the registers of reset. -/
theorem resetPin : Obligations.ResetPin := by
  unfold Obligations.ResetPin
  refine fun s rest hp => ⟨by rw [step, hp]; rfl, fun t ht => ?_⟩
  cases ht
  exact ⟨rfl, rfl, rfl, rfl, rfl, rfl, rfl⟩

/-- Settles O10: `CONFIGURE` writes two registers, and a non-zero argument is reserved. -/
theorem configureResult : Obligations.ConfigureResult := by
  unfold Obligations.ConfigureResult
  refine fun s => ⟨respond_zero _, rfl, fun arg harg => ?_⟩
  rw [transact_of_arg_ne_zero (.inr rfl) harg, raiseError_illegalCommand]

/-- `SET_FILTER` writes a value that does not depend on the state, or nothing. -/
theorem setFilter_idempotent (h : exec (.setFilter m) s = .next t) :
    exec (.setFilter m) t = .next t := by
  rw [exec_setFilter] at h ⊢
  by_cases hm : m = .unset
  · rw [if_pos hm] at h ⊢; cases h; rfl
  · rw [if_neg hm] at h ⊢; cases h; rfl

/-- `SET_ORDER` writes a value that does not depend on the state, or nothing. -/
theorem setOrder_idempotent (h : exec (.setOrder n) s = .next t) :
    exec (.setOrder n) t = .next t := by
  rw [exec_setOrder] at h ⊢
  by_cases h1 : n.toInt = 1
  · rw [if_pos h1] at h ⊢; cases h; rfl
  by_cases h2 : n.toInt = 2
  · rw [if_neg h1, if_pos h2] at h ⊢; cases h; rfl
  · rw [if_neg h1, if_neg h2] at h ⊢; cases h; rfl

/-- Settles O14: each configuration command writes values that do not depend on the state. -/
theorem configurationIdempotent : Obligations.ConfigurationIdempotent := by
  unfold Obligations.ConfigurationIdempotent
  intro i s t hi h
  cases i with
  | new | configure => cases h; rfl
  | setFilter m => exact setFilter_idempotent h
  | setOrder n => exact setOrder_idempotent h
  | _ => cases hi

/-- Settles O15: each of the two setters writes one of the two registers that `CONFIGURE` writes. -/
theorem configureIsTwoCommands : Obligations.ConfigureIsTwoCommands := by
  unfold Obligations.ConfigureIsTwoCommands
  intro s t h
  cases h
  rfl

/-- The word of a command runs it; the word of a run operation runs `RUN`. -/
theorem transact_encode (i : Instr) (s : State) : transact (encode i) s = exec i.carrier s := by
  rw [transact, decode_encode]

/-- `SET_ORDER` of 1 or 2 stores an order of that code. -/
theorem setOrder_accepts (hn : n.toInt = 1 ∨ n.toInt = 2) :
    ∃ o : FilterOrder, (o.code.toNat : Int) = n.toInt ∧
      ∀ s, exec (.setOrder n) s = .next { s with order := o, rsp := some 0x00000#17 } := by
  obtain h | h := hn
  · exact ⟨.one, h.symm, exec_setOrder_of_eq_one h⟩
  · exact ⟨.two, h.symm, exec_setOrder_of_eq_two h⟩

/-- Settles O16: the two setters write different registers. -/
theorem settersCommute : Obligations.SettersCommute := by
  unfold Obligations.SettersCommute
  intro s m n hm hn
  obtain ⟨o, hcode, hord⟩ := setOrder_accepts hn
  have hF (s : State) := (transact_encode (.setFilter m) s).trans (exec_setFilter_of_ne_unset hm s)
  have hO (s : State) := (transact_encode (.setOrder n) s).trans (hord s)
  refine ⟨{ s with mode := m, order := o, rsp := some 0x00000#17 }, ?_, ?_, rfl, hcode⟩
  · rw [afterCommands_cons (hF s), afterCommands_cons (hO _)]; rfl
  · rw [afterCommands_cons (hO s), afterCommands_cons (hF _)]; rfl

end Sys2Proof.Machine
end

section
/-! PROOFS. O35, O38 to O41: what `RUN` and the run operations read and write (46_run_dispatch.md
R88, 10_state.md R26). -/

namespace Sys2Proof.Machine

variable {s t : State} {x : Sample} {op i : Instr}

/-- Settles O35: the conditions of the two causes, on the word of `RUN`. -/
theorem runRefused : Obligations.RunRefused := by
  unfold Obligations.RunRefused
  refine fun s x => ⟨fun hmode => ?_, fun hmode horder => ?_⟩
  · rw [← transact_run, transact_of_raises (c := .modeUnset) ⟨cmdOp_commandWord 4#3 x, hmode⟩]
    rfl
  · rw [← transact_run,
      transact_of_raises (c := .orderUnset) ⟨cmdOp_commandWord 4#3 x, hmode, horder⟩]
    rfl

theorem selected_of_not_iir {m : FilterMode} (hc : m ≠ .cheb) (hb : m ≠ .bess)
    (o o' : FilterOrder) (x : Sample) : selected m o x = selected m o' x := by
  cases m with
  | cheb => exact absurd rfl hc
  | bess => exact absurd rfl hb
  | _ => rfl

/-- A run operation carries the order through unread. -/
theorem runOp_with_order (hkind : windowOp op = true ∨ trackerOp op = true) (o : FilterOrder)
    (h : exec op s = .next t) : exec op { s with order := o } = .next { t with order := o } := by
  cases op <;> simp [windowOp, trackerOp] at hkind
  all_goals
    cases h
    rfl

/-- Settles O38: outside the IIR modes neither the selection nor the operation depends on the
order. -/
theorem orderIgnored : Obligations.OrderIgnored := by
  unfold Obligations.OrderIgnored
  intro s t x o hc hb h
  have hsel := selected_of_not_iir hc hb o s.order x
  cases hs : selected s.mode s.order x with
  | none =>
    rw [exec_run_of_selected_eq_none hs] at h
    rw [exec_run_of_selected_eq_none (s := { s with order := o }) (hsel.trans hs)]
    cases h
    rfl
  | some op =>
    obtain ⟨hkind, heq⟩ := exec_run_of_selected_eq_some hs
    obtain ⟨-, heq'⟩ := exec_run_of_selected_eq_some (s := { s with order := o }) (hsel.trans hs)
    rw [heq']
    exact runOp_with_order hkind o (heq.symm.trans h)

/-- Settles O39: a window operation shifts one value in and answers. -/
theorem windowOperationFrame : Obligations.WindowOperationFrame := by
  unfold Obligations.WindowOperationFrame
  intro i s t hi h
  obtain ⟨v, y, heq⟩ := windowOp_answers hi s
  cases heq.symm.trans h
  exact ⟨rfl, rfl, rfl, rfl, rfl, rfl, rfl⟩

/-- The "fast" tracker writes the estimate alone (45_trackers.md R87). -/
theorem stepCounter_of_runTrkf (h : exec (.runTrkf x) s = .next t) :
    t.stepCounter = s.stepCounter := by
  cases h
  rfl

/-- Settles O40: a tracker writes the estimate and the counter, and the "fast" one the estimate
alone. -/
theorem trackerFrame : Obligations.TrackerFrame := by
  unfold Obligations.TrackerFrame
  intro i s t hi h
  have hcounter : ∀ x : Sample, i = .runTrkf x → t.stepCounter = s.stepCounter := by
    rintro x rfl
    exact stepCounter_of_runTrkf h
  obtain ⟨e, c, heq, -⟩ := trackerOp_answers hi s
  cases heq.symm.trans h
  exact ⟨rfl, rfl, rfl, rfl, rfl, rfl, hcounter⟩

/-- The mode tells the kind of the selected operation (46_run_dispatch.md R93). -/
theorem selected_kind {m : FilterMode} {o : FilterOrder} (h : selected m o x = some op) :
    (m = .trkf ∧ op = .runTrkf x) ∨ (m = .trks ∧ op = .runTrks x) ∨
      (m ≠ .trkf ∧ m ≠ .trks ∧ windowOp op = true) := by
  cases m <;> cases o <;> simp [selected] at h <;> subst h <;> simp [windowOp]

/-- Settles O41: `RUN` is refused and writes nothing, or it has the frame of the operation that its
mode selects. -/
theorem runFrame : Obligations.RunFrame := by
  unfold Obligations.RunFrame
  intro s t x h
  cases hsel : selected s.mode s.order x with
  | none =>
    rw [exec_run_of_selected_eq_none hsel, raiseError_eq_next] at h
    subst h
    exact ⟨rfl, rfl, rfl, fun _ _ => rfl, fun _ => rfl, fun _ => ⟨rfl, rfl, rfl⟩,
      fun _ _ hne => absurd rfl hne⟩
  | some op =>
    obtain ⟨-, heq⟩ := exec_run_of_selected_eq_some hsel
    rw [heq] at h
    obtain ⟨hm, rfl⟩ | ⟨hm, rfl⟩ | ⟨hf, hs, hwin⟩ := selected_kind hsel
    · obtain ⟨h0, h1, h2, hmode, horder, hpend, hcounter⟩ := trackerFrame _ s t rfl h
      exact ⟨hmode, horder, hpend, fun hf => absurd hm hf, fun _ => hcounter x rfl,
        fun _ => ⟨h0, h1, h2⟩, fun hf => absurd hm hf⟩
    · obtain ⟨h0, h1, h2, hmode, horder, hpend, -⟩ := trackerFrame _ s t rfl h
      exact ⟨hmode, horder, hpend, fun _ hs => absurd hm hs, fun hs => absurd hm hs,
        fun _ => ⟨h0, h1, h2⟩, fun _ hs => absurd hm hs⟩
    · obtain ⟨h0, h1, hhelper, hcounter, hmode, horder, hpend⟩ :=
        windowOperationFrame op s t hwin h
      exact ⟨hmode, horder, hpend, fun _ _ => hhelper, fun _ => hcounter,
        by simp [hf, hs], fun _ _ _ => ⟨h0, h1⟩⟩

end Sys2Proof.Machine
end

section
/-! PROOFS. O1, O46, O47: the step (20_memory.md R34, 30_encoding.md R50, R52). -/

namespace Sys2Proof.Machine

variable {s : State} {w : CmdWord}

/-- Settles O1: fourteen words, decoded. -/
theorem specWordsDecode : Obligations.SpecWordsDecode := by
  unfold Obligations.SpecWordsDecode
  decide

/-- Settles O46: idling, reset and every transaction answer a next state, and take one entry. -/
theorem noTerminalState : Obligations.NoTerminalState := by
  unfold Obligations.NoTerminalState
  intro s
  obtain ⟨hp, heq⟩ | ⟨rest, hp, heq⟩ | ⟨w, rest, hp, heq⟩ := step_cases s
  · exact ⟨s.idle, heq, by rw [hp, State.idle_pending, hp]; rfl⟩
  · exact ⟨_, heq, by rw [hp]; rfl⟩
  · obtain ⟨t, r, h, -⟩ := transact_answers w (s.take rest)
    exact ⟨t, heq.trans h, by rw [transact_pending h, hp]; rfl⟩

theorem transact_of_decode_ok {i : Instr} (h : decode w = .ok i) : transact w s = exec i s := by
  rw [transact, h]

theorem transact_of_decode_error {e : DecodeError} (h : decode w = .error e) :
    transact w s = raiseError .illegalCommand s := by
  rw [transact, h]

theorem decode_tableWord {nbits w : Nat} {i : Instr} (h : decodeTableWord nbits w = some i) :
    decode (tableWord nbits w) = .ok i := by
  rw [decodeTableWord] at h
  cases hd : decode (tableWord nbits w) with
  | ok j => rw [hd] at h; cases h; rfl
  | error e => rw [hd] at h; cases h

/-- Settles O47: a step is the transaction of the word that stands first, and `withFetchWord` puts
the table's word there. -/
theorem stepRunsDecoded : Obligations.StepRunsDecoded := by
  unfold Obligations.StepRunsDecoded
  refine fun s => ⟨fun w rest hp => ⟨fun i hi => ?_, fun e he => ?_⟩, fun hp => ?_,
    fun nbits w i hi => ?_⟩
  · rw [step_of_command hp, transact_of_decode_ok hi]
    rfl
  · rw [step_of_command hp, transact_of_decode_error he]
    rfl
  · exact step_of_nil hp
  · rw [step_of_command rfl, transact_of_decode_ok (decode_tableWord hi)]
    rfl

end Sys2Proof.Machine
end

section
/-! PROOFS. O17 to O22: the arithmetic of the IIR operations (42_chebyshev.md, 43_bessel.md). -/

namespace Sys2Proof.Machine

variable {s t : State} {x : Sample} {op : Instr}

/-- Settles O22: `wrap16` is congruent and in range, and the range holds one of each class. -/
theorem wrap16Unique : Obligations.Wrap16Unique := by
  unfold Obligations.Wrap16Unique
  intro i r
  change _ ↔ r = sext16 (wrap16 i)
  rw [sext16_wrap16]
  omega

theorem toInt_range (v : Sample) : -32768 ≤ v.toInt ∧ v.toInt ≤ 32767 :=
  ⟨le_sext16 v, sext16_le v⟩

/-! The accumulators with their rounding adds, the rows of constants written out (R67, R72), and
their ranges over 16-bit operands (95_test_vectors.md V-IIR-8). -/

theorem cheb1Acc_eq (x p : Int) :
    iir1Acc cheb1Row x p + cheb1Row.add = x * 3269048 / 4 + p * 3701023 / 8 + 1048576 := rfl

theorem bess1Acc_eq (x p : Int) :
    iir1Acc bess1Row x p + bess1Row.add = x * 2057199 / 8 + p * 1068552 / 2 + 524288 := rfl

theorem asr_zero (i : Int) : asr i 0 = i := Int.ediv_one i

theorem cheb2Acc_eq (x a b : Int) :
    iir2Acc cheb2Row x a b + cheb2Row.add =
      x * 662828 / 16 + a * (-540791) / 2 + b * 628977 + 262144 := by
  rw [← asr_zero (b * 628977)]
  rfl

theorem bess2Acc_eq (x a b : Int) :
    iir2Acc bess2Row x a b + bess2Row.add =
      x * 759505 / 16 + a * (-1011418) / 8 + b * 921678 / 2 + 262144 := rfl

theorem cheb1Acc_range (x p : Sample) :
    -41938382848 ≤ iir1Acc cheb1Row x.toInt p.toInt + cheb1Row.add ∧
      iir1Acc cheb1Row x.toInt p.toInt + cheb1Row.add ≤ 41939200110 := by
  have hx := toInt_range x
  have hp := toInt_range p
  rw [cheb1Acc_eq]
  omega

theorem bess1Acc_range (x p : Sample) :
    -25932918784 ≤ iir1Acc bess1Row x.toInt p.toInt + bess1Row.add ∧
      iir1Acc bess1Row x.toInt p.toInt + bess1Row.add ≤ 25933175934 := by
  have hx := toInt_range x
  have hp := toInt_range p
  rw [bess1Acc_eq]
  omega

theorem cheb2Acc_range (x a b : Sample) :
    -30827577285 ≤ iir2Acc cheb2Row x.toInt a.toInt b.toInt + cheb2Row.add ∧
      iir2Acc cheb2Row x.toInt a.toInt b.toInt + cheb2Row.add ≤ 30827701564 := by
  have hx := toInt_range x
  have ha := toInt_range a
  have hb := toInt_range b
  rw [cheb2Acc_eq]
  omega

theorem bess2Acc_range (x a b : Sample) :
    -20798618149 ≤ iir2Acc bess2Row x.toInt a.toInt b.toInt + bess2Row.add ∧
      iir2Acc bess2Row x.toInt a.toInt b.toInt + bess2Row.add ≤ 20798760555 := by
  have hx := toInt_range x
  have ha := toInt_range a
  have hb := toInt_range b
  rw [bess2Acc_eq]
  omega

/-- A 16-bit operand times a constant of at most 22 bits of magnitude fits 38 bits signed. -/
theorem product_fits {k : Int} (hk : |k| ≤ 4194303) (x : Sample) :
    -137438953472 ≤ x.toInt * k ∧ x.toInt * k < 137438953472 := by
  have hx : |x.toInt| ≤ 32768 := abs_le.mpr (by have := toInt_range x; omega)
  have hprod : |x.toInt * k| ≤ 32768 * 4194303 := by
    rw [abs_mul]
    exact mul_le_mul hx hk (abs_nonneg k) (by decide)
  have := abs_le.mp hprod
  omega

/-- Settles O21: the constants have at most 22 bits, and each accumulator has its range. -/
theorem accumulatorRanges : Obligations.AccumulatorRanges := by
  unfold Obligations.AccumulatorRanges
  intro x a b
  refine ⟨fun k hk => product_fits ?_ x, ?_⟩
  · revert k
    decide
  · obtain ⟨c1, c1'⟩ := cheb1Acc_range x a
    obtain ⟨b1, b1'⟩ := bess1Acc_range x a
    obtain ⟨c2, c2'⟩ := cheb2Acc_range x a b
    obtain ⟨b2, b2'⟩ := bess2Acc_range x a b
    exact ⟨c1, c1', b1, b1', c2, c2', b2, b2'⟩

/-! The four operations, alone and under `RUN`. -/

/-- `IIR1` with a recurrence value that needs no truncation. -/
theorem iir1_answers {r : Iir1Row} {tmp : Int} (htmp : iir1Tmp r x.toInt s.w2.toInt = tmp)
    (hlo : -32768 ≤ tmp) (hhi : tmp ≤ 32767) :
    iir1 r x s = .next
      { s with
        w0 := s.w1, w1 := s.w2, w2 := BitVec.ofInt 16 tmp
        rsp := some ((BitVec.ofInt 16 (s.w2.toInt + tmp)).setWidth 17) } := by
  rw [iir1_eq, htmp, sext16_wrap16_of_range hlo hhi, successWord_eq_setWidth]
  rfl

theorem iir2_answers {r : Iir2Row} {tmp : Int}
    (htmp : iir2Tmp r x.toInt s.w1.toInt s.w2.toInt = tmp) :
    iir2 r x s = .next
      { s with
        w0 := s.w1, w1 := s.w2, w2 := BitVec.ofInt 16 tmp
        rsp := some ((BitVec.ofInt 16
          (s.w1.toInt + (BitVec.ofInt 16 tmp).toInt + 2 * s.w2.toInt)).setWidth 17) } := by
  rw [iir2_eq, htmp, successWord_eq_setWidth]
  rfl

/-- Where the state selects an operation, `RUN` and its word are that operation. -/
theorem run_of_selected (hsel : selected s.mode s.order x = some op) (h : exec op s = .next t) :
    exec (.run x) s = .next t ∧ transact (commandWord 4#3 x) s = .next t := by
  obtain ⟨-, heq⟩ := exec_run_of_selected_eq_some hsel
  rw [transact_run, heq]
  exact ⟨h, h⟩

/-- Settles O17: the accumulator's range bounds the recurrence value, which is stored whole. -/
theorem runCheb1Result : Obligations.RunCheb1Result := by
  unfold Obligations.RunCheb1Result
  intro s x tmp t
  have hacc := cheb1Acc_range x s.w2
  have hshift : (iir1Acc cheb1Row x.toInt s.w2.toInt + cheb1Row.add) / 2097152 = tmp := rfl
  have htmp : -19998 ≤ tmp ∧ tmp ≤ 19998 := by omega
  have hw := toInt_range s.w2
  have hexec : exec (.runCheb1 x) s = .next t := iir1_answers rfl (by omega) (by omega)
  refine ⟨hexec, fun hmode horder => run_of_selected ?_ hexec, by omega, by omega, by omega,
    by omega⟩
  rw [hmode, horder]
  rfl

/-- Settles O18: the accumulator's range bounds the recurrence value; the answer reads the slot that
was stored. -/
theorem runCheb2Result : Obligations.RunCheb2Result := by
  unfold Obligations.RunCheb2Result
  intro s x tmp v t
  have hacc := cheb2Acc_range x s.w1 s.w2
  have hshift : (iir2Acc cheb2Row x.toInt s.w1.toInt s.w2.toInt + cheb2Row.add) / 524288 = tmp := by
    rw [cheb2Acc_eq]
  have hexec : exec (.runCheb2 x) s = .next t := iir2_answers hshift
  refine ⟨hexec, fun hmode horder => run_of_selected ?_ hexec, by omega, by omega⟩
  rw [hmode, horder]
  rfl

/-- Settles O19, as O17 with the Bessel row. -/
theorem runBess1Result : Obligations.RunBess1Result := by
  unfold Obligations.RunBess1Result
  intro s x tmp t
  have hacc := bess1Acc_range x s.w2
  have hshift : (iir1Acc bess1Row x.toInt s.w2.toInt + bess1Row.add) / 1048576 = tmp := rfl
  have htmp : -24732 ≤ tmp ∧ tmp ≤ 24731 := by omega
  have hw := toInt_range s.w2
  have hexec : exec (.runBess1 x) s = .next t := iir1_answers rfl (by omega) (by omega)
  refine ⟨hexec, fun hmode horder => run_of_selected ?_ hexec, by omega, by omega, by omega,
    by omega⟩
  rw [hmode, horder]
  rfl

/-- Settles O20, as O18 with the Bessel row. -/
theorem runBess2Result : Obligations.RunBess2Result := by
  unfold Obligations.RunBess2Result
  intro s x tmp v t
  have hacc := bess2Acc_range x s.w1 s.w2
  have hshift : (iir2Acc bess2Row x.toInt s.w1.toInt s.w2.toInt + bess2Row.add) / 524288 = tmp :=
    rfl
  have hexec : exec (.runBess2 x) s = .next t := iir2_answers hshift
  refine ⟨hexec, fun hmode horder => run_of_selected ?_ hexec, by omega, by omega⟩
  rw [hmode, horder]
  rfl

end Sys2Proof.Machine
end

section
/-! PROOFS. O24, O25: the median window (10_state.md R27, 70_reset_and_hazards.md R112). -/

namespace Sys2Proof.Machine

variable {s : State}

/-- The word of `RUN` in a median mode shifts its sample in and answers the middle (44_median.md
R118). -/
theorem transact_runWord_of_medianMode (hmode : MedianMode s.mode) (x : Sample) :
    ∃ m : Sample, MiddleOf m.toInt s.w1.toInt s.w2.toInt x.toInt ∧
      transact (runWord x) s = .next ((s.shift3 x).present (m.setWidth 17)) := by
  obtain ⟨m, hmiddle, hrun⟩ := medianRun_answers x s
  exact ⟨m, hmiddle, by rw [runWord, transact_run, exec_run_of_medianMode hmode, hrun]⟩

/-- Settles O24, by induction on the samples before the last three. -/
theorem medianWindow : Obligations.MedianWindow := by
  unfold Obligations.MedianWindow
  intro s xs a b c hmode
  induction xs generalizing s with
  | nil =>
    obtain ⟨ma, -, ha⟩ := transact_runWord_of_medianMode hmode a
    obtain ⟨mb, -, hb⟩ := transact_runWord_of_medianMode
      (s := (s.shift3 a).present (ma.setWidth 17)) hmode b
    obtain ⟨mc, -, hc⟩ := transact_runWord_of_medianMode
      (s := (((s.shift3 a).present (ma.setWidth 17)).shift3 b).present (mb.setWidth 17)) hmode c
    have hafter := (afterCommands_cons ha [runWord b, runWord c]).trans
      ((afterCommands_cons hb [runWord c]).trans (afterCommands_cons hc []))
    exact ⟨_, hafter, rfl, rfl, rfl⟩
  | cons x xs ih =>
    obtain ⟨m, -, hx⟩ := transact_runWord_of_medianMode hmode x
    rw [List.cons_append, List.map_cons, afterCommands_cons hx]
    exact ih ((s.shift3 x).present (m.setWidth 17)) hmode

/-- The middle of two zeros and anything is zero. -/
theorem eq_zero_of_middleOf_zero_zero {m x : Sample} (h : MiddleOf m.toInt 0 0 x.toInt) :
    m = 0#16 := by
  apply BitVec.eq_of_toInt_eq
  rw [BitVec.toInt_zero]
  omega

/-- Settles O25: the window of reset holds zeros, and each sample is shifted in before the middle is
taken. -/
theorem medianStartUp : Obligations.MedianStartUp := by
  unfold Obligations.MedianStartUp
  intro m x1 x2 hmode
  have hne : m ≠ .unset := by
    obtain rfl | rfl | rfl := hmode <;> decide
  have hset := (transact_encode (.setFilter m) State.reset).trans (exec_setFilter_of_ne_unset hne _)
  obtain ⟨y1, hy1, hrun1⟩ := transact_runWord_of_medianMode
    (s := { State.reset with mode := m, rsp := some 0x00000#17 }) hmode x1
  obtain rfl := eq_zero_of_middleOf_zero_zero hy1
  obtain ⟨y2, hy2, hrun2⟩ := transact_runWord_of_medianMode
    (s := ({ State.reset with mode := m, rsp := some 0x00000#17 }.shift3 x1).present
      ((0#16).setWidth 17)) hmode x2
  refine ⟨y2, hy2, ?_⟩
  rw [responsesTo_cons hset, responsesTo_cons hrun1, responsesTo_cons hrun2]
  rfl

end Sys2Proof.Machine
end

section
/-! PROOFS. O26 to O29: the "fast" tracker (45_trackers.md section 2). -/

namespace Sys2Proof.Machine

variable {s t : State} {x : Sample}

/-! The movement depends on the gap alone. -/

/-- How far the cascade and the unit step move the estimate towards a sample `gap` above it. -/
def trkfStride (gap : Int) : Int := trkThresholds.foldl (trkfUpStep gap) 0 + 1

theorem trkfUpStep_add (x h a d : Int) :
    trkfUpStep x (h + a) d = h + trkfUpStep (x - h) a d := by
  unfold trkfUpStep
  split_ifs <;> omega

/-- Down is up with the sides exchanged. -/
theorem trkfDownStep_sub (x h a d : Int) :
    trkfDownStep x (h - a) d = h - trkfUpStep (h - x) a d := by
  unfold trkfDownStep trkfUpStep
  split_ifs <;> omega

theorem foldl_trkfUpStep (x h : Int) (ds : List Int) (a : Int) :
    ds.foldl (trkfUpStep x) (h + a) = h + ds.foldl (trkfUpStep (x - h)) a := by
  induction ds generalizing a with
  | nil => rfl
  | cons d ds ih => rw [List.foldl_cons, trkfUpStep_add, ih, List.foldl_cons]

theorem foldl_trkfDownStep (x h : Int) (ds : List Int) (a : Int) :
    ds.foldl (trkfDownStep x) (h - a) = h - ds.foldl (trkfUpStep (h - x)) a := by
  induction ds generalizing a with
  | nil => rfl
  | cons d ds ih => rw [List.foldl_cons, trkfDownStep_sub, ih, List.foldl_cons]

/-- The estimate moves by the stride of the gap, towards the sample. -/
theorem trkfMove_cases (x h : Int) :
    (h < x ∧ trkfMove x h = h + trkfStride (x - h)) ∨
    (x < h ∧ trkfMove x h = h - trkfStride (h - x)) ∨
    (x = h ∧ trkfMove x h = h) := by
  have hup := foldl_trkfUpStep x h trkThresholds 0
  have hdown := foldl_trkfDownStep x h trkThresholds 0
  rw [add_zero] at hup
  rw [sub_zero] at hdown
  unfold trkfMove trkfStride
  rw [hup, hdown]
  split_ifs <;> omega

/-- The cascade written out, each threshold against the movement so far (R81). -/
theorem trkfStride_eq (g : Int) :
    trkfStride g =
      trkfUpStep g (trkfUpStep g (trkfUpStep g (trkfUpStep g 0 512) 128) 32) 8 + 1 := rfl

theorem trkfStride_range {g : Int} (hg : 0 < g) :
    1 ≤ trkfStride g ∧ trkfStride g ≤ g ∧ trkfStride g ≤ 681 := by
  simp only [trkfStride_eq, trkfUpStep]
  split_ifs <;> omega

/-- The stride of each range of gaps (R82 b). -/
theorem trkfStride_table {g : Int} (hg : 0 < g) :
    (g ≤ 8 → trkfStride g = 1) ∧ (9 ≤ g → g ≤ 32 → trkfStride g = 9) ∧
    (33 ≤ g → g ≤ 40 → trkfStride g = 33) ∧ (g = 41 → trkfStride g = 41) ∧
    (681 ≤ g → trkfStride g = 681) := by
  simp only [trkfStride_eq, trkfUpStep]
  split_ifs <;> omega

/-- The estimate moves towards the sample and never past it. -/
theorem trkfMove_between (x h : Int) :
    (h < x → h < trkfMove x h ∧ trkfMove x h ≤ x) ∧
    (x < h → x ≤ trkfMove x h ∧ trkfMove x h < h) ∧ (x = h → trkfMove x h = h) := by
  obtain ⟨hlt, hmove⟩ | ⟨hgt, hmove⟩ | ⟨heq, hmove⟩ := trkfMove_cases x h
  · have := trkfStride_range (g := x - h) (by omega)
    omega
  · have := trkfStride_range (g := h - x) (by omega)
    omega
  · omega

theorem trkfMove_range (x h : Sample) :
    -32768 ≤ trkfMove x.toInt h.toInt ∧ trkfMove x.toInt h.toInt ≤ 32767 := by
  have hx := toInt_range x
  have hh := toInt_range h
  have hmove := trkfMove_between x.toInt h.toInt
  omega

/-- The stored estimate is the exact one. -/
theorem toInt_helper_of_runTrkf (h : exec (.runTrkf x) s = .next t) :
    t.helper.toInt = trkfMove x.toInt s.helper.toInt := by
  obtain ⟨hlo, hhi⟩ := trkfMove_range x s.helper
  cases h
  exact sext16_wrap16_of_range hlo hhi

/-- Settles O26: the fold over the thresholds is the cascade, and its result is in range. -/
theorem runTrkfResult : Obligations.RunTrkfResult := by
  unfold Obligations.RunTrkfResult
  intro s x d u0 u1 u2 u3 u4 v1 v2 v3 v4 h t
  have hmove : trkfMove x.toInt s.helper.toInt = h := rfl
  obtain ⟨hlo, hhi⟩ := trkfMove_range x s.helper
  have hexec : exec (.runTrkf x) s = .next t := by
    change execRunTrkf x s = _
    rw [execRunTrkf_eq, successWord_eq_setWidth]
    rfl
  refine ⟨hexec, fun hmode => run_of_selected ?_ hexec, ?_⟩
  · rw [hmode]
    rfl
  · rw [← hmove]
    exact sext16_wrap16_of_range hlo hhi

/-- Settles O27: the stored estimate is the exact one, which does not pass the sample. -/
theorem trkfNoOvershoot : Obligations.TrkfNoOvershoot := by
  unfold Obligations.TrkfNoOvershoot
  intro s t x h
  obtain ⟨hup, hdown, heq⟩ := trkfMove_between x.toInt s.helper.toInt
  have hhelper := toInt_helper_of_runTrkf h
  rw [← hhelper] at hup hdown heq
  exact ⟨hup, hdown, fun hx => BitVec.eq_of_toInt_eq (heq (congrArg BitVec.toInt hx))⟩

/-- Settles O28: the movement is the stride of the gap, on either side. -/
theorem trkfMovement : Obligations.TrkfMovement := by
  unfold Obligations.TrkfMovement
  intro s t x h gap move
  have hhelper := toInt_helper_of_runTrkf h
  have hmove : (gap = 0 ∧ move = 0) ∨ (0 < gap ∧ (move : Int) = trkfStride gap) := by
    obtain ⟨hlt, hmove⟩ | ⟨hgt, hmove⟩ | ⟨heq, hmove⟩ := trkfMove_cases x.toInt s.helper.toInt
    · have hgap : (gap : Int) = x.toInt - s.helper.toInt := by omega
      have := trkfStride_range (g := x.toInt - s.helper.toInt) (by omega)
      rw [hgap]
      omega
    · have hgap : (gap : Int) = s.helper.toInt - x.toInt := by omega
      have := trkfStride_range (g := s.helper.toInt - x.toInt) (by omega)
      rw [hgap]
      omega
    · omega
  obtain ⟨hgap, hzero⟩ | ⟨hgap, hstride⟩ := hmove
  · omega
  · have hrange := trkfStride_range (g := gap) (by omega)
    have htable := trkfStride_table (g := gap) (by omega)
    omega

end Sys2Proof.Machine
end

section
/-! PROOFS. O30 to O32: the "smoother" tracker (45_trackers.md section 3). -/

namespace Sys2Proof.Machine

variable {s t : State} {x : Sample}

/-- Settles O30: `RUN.TRKS` as its rule writes it. -/
theorem runTrksResult : Obligations.RunTrksResult := by
  unfold Obligations.RunTrksResult
  intro s x d h0 c0 c1 h t
  have hexec : exec (.runTrks x) s = .next t := by
    change execRunTrks x s = _
    rw [execRunTrks_eq, successWord_eq_setWidth]
    rfl
  refine ⟨hexec, fun hmode => run_of_selected ?_ hexec⟩
  rw [hmode]
  rfl

theorem stepCounter_of_runTrks (h : exec (.runTrks x) s = .next t) :
    t.stepCounter = trksStore (trksCount x.toInt s.helper.toInt s.stepCounter.toNat) := by
  cases h
  rfl

theorem helper_of_runTrks (h : exec (.runTrks x) s = .next t) :
    t.helper = wrap16 (trksMove x.toInt s.helper.toInt s.stepCounter.toNat) := by
  cases h
  rfl

/-- Within the deadband a counter in range is held (R84 a). -/
theorem stepCounter_of_runTrks_deadband (hc : s.stepCounter.toNat ≤ 10)
    (hgap : (x.toInt - s.helper.toInt).natAbs ≤ 8) (h : exec (.runTrks x) s = .next t) :
    t.stepCounter = s.stepCounter := by
  apply BitVec.eq_of_toNat_eq
  rw [stepCounter_of_runTrks h, trksCount_of_not (by omega), trksStore_of_le hc]

/-- Beyond the deadband a counter in range counts modulo 11 (R84 a). -/
theorem stepCounter_of_runTrks_qualifies (hc : s.stepCounter.toNat ≤ 10)
    (hgap : 8 < (x.toInt - s.helper.toInt).natAbs) (h : exec (.runTrks x) s = .next t) :
    t.stepCounter.toNat = (s.stepCounter.toNat + 1) % 11 := by
  rw [stepCounter_of_runTrks h, trksCount_of_qualifies (by omega)]
  by_cases htop : s.stepCounter.toNat = 10
  · rw [htop]
    rfl
  · rw [trksStore_of_le (by omega), Nat.mod_eq_of_lt (by omega)]

/-- Settles O31: the sample qualifies exactly beyond the deadband. -/
theorem trksCounter : Obligations.TrksCounter := by
  unfold Obligations.TrksCounter
  exact fun s t x hc h => ⟨fun hgap => stepCounter_of_runTrks_qualifies hc hgap h,
    fun hgap => stepCounter_of_runTrks_deadband hc hgap h⟩

/-- Settles O32: in each case of the movement, with a counter of at most 10. -/
theorem trksMovement : Obligations.TrksMovement := by
  unfold Obligations.TrksMovement
  intro s t x hc h move
  have hmove := trksMove_cases x.toInt s.helper.toInt s.stepCounter.toNat
  have hdist : (move - s.helper.toInt).natAbs ≤ 89 := by omega
  refine ⟨hdist, by omega, by omega, fun hlo hhi => ?_⟩
  rw [helper_of_runTrks h]
  exact sext16_wrap16_of_range (by omega) (by omega)

end Sys2Proof.Machine
end

section
/-! PROOFS. O29, O33: both trackers reach a constant sample, by one induction (45_trackers.md R82 c,
R84 d). -/

namespace Sys2Proof.Machine

variable {s t : State} {x : Sample}

/-- How far the estimate is from the sample. -/
def State.gap (s : State) (x : Sample) : Nat := (x.toInt - s.helper.toInt).natAbs

theorem helper_eq_of_gap_eq_zero (h : s.gap x = 0) : s.helper = x := by
  unfold State.gap at h
  exact BitVec.eq_of_toInt_eq (by omega)

/-- If every run of `x` keeps `P` and closes the gap by one where there is one, the estimate reaches
`x` within the gap and stays. -/
theorem reaches_of_approach {P : State → Prop}
    (hstep : ∀ s, P s → ∃ t, transact (runWord x) s = .next t ∧ P t ∧ t.gap x ≤ s.gap x - 1)
    (n : Nat) (s : State) (hs : P s) (hn : s.gap x ≤ n) :
    ∃ t, afterCommands (List.replicate n (runWord x)) s = some t ∧ t.helper = x ∧ P t := by
  induction n generalizing s with
  | zero => exact ⟨s, rfl, helper_eq_of_gap_eq_zero (by omega), hs⟩
  | succ n ih =>
    obtain ⟨t, ht, hP, hgap⟩ := hstep s hs
    obtain ⟨u, hu, hx, hPu⟩ := ih t hP (by omega)
    exact ⟨u, (afterCommands_cons ht _).trans hu, hx, hPu⟩

/-- Where the state selects an operation, the word of `RUN` is that operation. -/
theorem transact_runWord_of_selected {op : Instr} (hsel : selected s.mode s.order x = some op)
    (h : exec op s = .next t) : transact (runWord x) s = .next t :=
  (run_of_selected hsel h).2

theorem runTrkf_approaches (x : Sample) (s : State) (hmode : s.mode = .trkf) :
    ∃ t, transact (runWord x) s = .next t ∧ t.mode = .trkf ∧ t.gap x ≤ s.gap x - 1 := by
  have hexec : exec (.runTrkf x) s = .next _ := execRunTrkf_eq x s
  refine ⟨_, transact_runWord_of_selected (by rw [hmode]; rfl) hexec, hmode, ?_⟩
  have hhelper := toInt_helper_of_runTrkf hexec
  unfold State.gap
  rw [hhelper]
  have hmove := trkfMove_between x.toInt s.helper.toInt
  omega

/-- Settles O29: a stride of at least 1 and at most the gap closes it by at least one a run. -/
theorem trkfConverges : Obligations.TrkfConverges := by
  unfold Obligations.TrkfConverges
  intro s x n hmode hn
  obtain ⟨t, hafter, hx, -⟩ := reaches_of_approach (runTrkf_approaches x) n s hmode hn
  exact ⟨t, hafter, hx⟩

/-- Within the deadband the unit step closes the gap by one (R84 d). -/
theorem gap_of_runTrks_deadband (hgap : s.gap x ≤ 8) (h : exec (.runTrks x) s = .next t) :
    t.gap x ≤ s.gap x - 1 := by
  have hx := toInt_range x
  have hh := toInt_range s.helper
  have hmove := trksMove_cases x.toInt s.helper.toInt s.stepCounter.toNat
  have hhelper : t.helper.toInt = trksMove x.toInt s.helper.toInt s.stepCounter.toNat := by
    unfold State.gap at hgap
    rw [helper_of_runTrks h]
    exact sext16_wrap16_of_range (by omega) (by omega)
  unfold State.gap at hgap ⊢
  omega

/-- What holds of every state on the way: within the deadband, with the counter at `c`. -/
def InDeadband (x : Sample) (c : BitVec 4) (s : State) : Prop :=
  s.mode = .trks ∧ s.stepCounter = c ∧ s.gap x ≤ 8

theorem runTrks_approaches {c : BitVec 4} (hc : c.toNat ≤ 10) (x : Sample) (s : State)
    (hs : InDeadband x c s) :
    ∃ t, transact (runWord x) s = .next t ∧ InDeadband x c t ∧ t.gap x ≤ s.gap x - 1 := by
  obtain ⟨hmode, rfl, hgap⟩ := hs
  have hexec : exec (.runTrks x) s = .next _ := execRunTrks_eq x s
  have hcounter := stepCounter_of_runTrks_deadband hc hgap hexec
  have hclose := gap_of_runTrks_deadband hgap hexec
  exact ⟨_, transact_runWord_of_selected (by rw [hmode]; rfl) hexec,
    ⟨hmode, hcounter, by omega⟩, hclose⟩

/-- Settles O33: within the deadband the unit step closes the gap by one a run. -/
theorem trksConvergesInDeadband : Obligations.TrksConvergesInDeadband := by
  unfold Obligations.TrksConvergesInDeadband
  intro s x n hmode hc hgap hn
  obtain ⟨t, hafter, hx, -, hcounter, -⟩ :=
    reaches_of_approach (runTrks_approaches hc x) n s ⟨hmode, rfl, hgap⟩ hn
  exact ⟨t, hafter, hx, hcounter⟩

end Sys2Proof.Machine
end
